-- ==== Sys2Proof/Word.lean ====
section
/-!
DEFINITION. The data widths of the cartridge block's interface (00_scope.md R19).
Every value is unsigned (R31); `v.extractLsb hi lo` is the spec's field `v[hi:lo]`, and
`setWidth` zero-extends or truncates (R32).
-/

namespace Sys2Proof

/-- A data value, `u8` (R19). -/
abbrev Byte := BitVec 8

/-- A CPU address or a scanline number, `u16` (R19). -/
abbrev Word := BitVec 16

/-- A PPU pattern address after the truncation of R405: bits 12:0 of what the PPU presents. -/
abbrev ChrAddr := BitVec 13

end Sys2Proof
end

