-- ==== Sys2Proof/Config.lean ====
section
/-!
DEFINITION. The constants of the block (00_scope.md A4, R30). The parameters a loader supplies
(R10 to R16, R18) are not constants: construction takes them as arguments and State keeps them.
The spec narrows every value the document leaves undefined (93_implementation_defined.md
Part A), so there is no free value here.
-/

namespace Sys2Proof.Config

/-- 1K (R30). -/
abbrev k1 : Nat := 0x400
/-- 2K (R30). -/
abbrev k2 : Nat := 0x800
/-- 4K (R30). -/
abbrev k4 : Nat := 0x1000
/-- 8K (R30). -/
abbrev k8 : Nat := 0x2000
/-- 16K (R30). -/
abbrev k16 : Nat := 0x4000
/-- 32K (R30). -/
abbrev k32 : Nat := 0x8000

/-- The lowest CPU address of the block's contract (R200, R405). -/
abbrev cpuBase : Word := 0x4020
/-- `CHR_RAM_SIZE` where there is no CHR-ROM (R14). -/
abbrev chrRamSize : Nat := 8192
/-- `EXRAM_SIZE` (R17). -/
abbrev exramSize : Nat := 1024
/-- The least `PRG_RAM_SIZE` of the FDS kind (R1101). -/
abbrev fdsRamSize : Nat := 32768

end Sys2Proof.Config
end

