-- ==== Sys2Proof/Machine/Memory.lean ====
section
/-!
DEFINITION. One byte array of the block (00_scope.md R34): its size, and its bytes as a list of
(offset, byte) cells in one canonical form: offsets strictly rising and below the size, no cell
holding 0. An offset with no cell holds 0: that is the spec's own value for block-allocated
memory (10_state.md R190), and for a ROM image it is how a byte 0 of the loader's buffer is
written down (log entry 9).
-/

namespace Sys2Proof.Machine

/-- A byte array of `size` bytes, indexed from 0; size 0 means the memory is absent. -/
structure Memory where
  size  : Nat
  cells : List Host.Cell
  deriving DecidableEq, Repr

/-- The byte of the first cell at offset `o`; 0 where no cell stands. -/
def cellAt : List Host.Cell → Nat → Byte
  | [], _ => 0
  | (p, v) :: rest, o => if p = o then v else cellAt rest o

/-- The cells without those at offset `o`. -/
def cellErase (cells : List Host.Cell) (o : Nat) : List Host.Cell :=
  cells.filter fun c => c.1 != o

/-- A new cell put before the first cell of a higher offset. -/
def cellInsert : List Host.Cell → Nat → Byte → List Host.Cell
  | [], o, v => [(o, v)]
  | (p, w) :: rest, o, v => if o < p then (o, v) :: (p, w) :: rest else (p, w) :: cellInsert rest o v

/-- Offset `o` set to `v`; a byte 0 leaves no cell, so the form stays canonical. -/
def cellSet (cells : List Host.Cell) (o : Nat) (v : Byte) : List Host.Cell :=
  if v = 0 then cellErase cells o else cellInsert (cellErase cells o) o v

/-- The canonical form of a memory. -/
abbrev Memory.wf (m : Memory) : Prop :=
  m.cells.Pairwise (fun c d => c.1 < d.1) ∧ ∀ c ∈ m.cells, c.1 < m.size ∧ c.2 ≠ 0

/-- Freshly allocated memory: every byte 0 (R190). -/
def Memory.zeroed (size : Nat) : Memory := { size := size, cells := [] }

/-- The byte at offset `o`. -/
def Memory.read (m : Memory) (o : Nat) : Byte := cellAt m.cells o

/-- The memory with `v` at offset `o`; nothing changes beyond the end. -/
def Memory.write (m : Memory) (o : Nat) (v : Byte) : Memory :=
  if o < m.size then { m with cells := cellSet m.cells o v } else m

/-- All bytes in offset order (R420). -/
def Memory.bytes (m : Memory) : List Byte := (List.range m.size).map m.read

/-- The cells of a byte sequence that begins at offset `o`. -/
def cellsOfBytes : Nat → List Byte → List Host.Cell
  | _, [] => []
  | o, v :: rest => if v = 0 then cellsOfBytes (o + 1) rest else (o, v) :: cellsOfBytes (o + 1) rest

/-- The memory that holds exactly a byte sequence (R421). -/
def Memory.ofBytes (d : List Byte) : Memory := { size := d.length, cells := cellsOfBytes 0 d }

/-- A memory of `size` bytes filled from cells in any order, in canonical form; cells beyond the
end are dropped and a later cell at an offset replaces an earlier one. -/
def Memory.ofCells (size : Nat) (cells : List Host.Cell) : Memory :=
  cells.foldl (fun m c => m.write c.1 c.2) (Memory.zeroed size)

end Sys2Proof.Machine
end

