-- ==== Sys2Proof/Syntax.lean ====
section
/-!
DEFINITION. The syntax of the block: its mapper kinds and mirroring modes (00_scope.md R36), the
bus transactions its collaborators present (30_encoding.md R300), and its instructions, one
constructor per row of spec/opcode_table.json: a transaction of one kind and format that the
row's pattern decodes (R301). A CPU row carries the whole 16-bit address, a CHR row the address
bits 12:0 (R405), a write its value byte.
-/

namespace Sys2Proof

/-- `Kind` (R36): the fifteen mapper kinds of R3. -/
inductive Kind where
  | nrom
  | uxrom
  | camerica
  | cnrom
  | colorDreams
  | axrom
  | mmc1
  | mmc3
  | mmc2
  | mmc4
  | mmc5
  | vrc6
  | vrc6a
  | vrc7
  | fds
  deriving DecidableEq, Repr

/-- `Mirror` (R36). -/
inductive Mirror where
  | horizontal
  | vertical
  | singleA
  | singleB
  | fourScreen
  deriving DecidableEq, Repr

/-- A bus transaction (R300). A PPU transaction carries the 16-bit address as presented. -/
inductive Bus where
  | cpuRead (a : Word)
  | cpuWrite (a : Word) (v : Byte)
  | chrRead (a : Word)
  | chrWrite (a : Word) (v : Byte)
  deriving DecidableEq, Repr

/-- The decoded transactions, in the order of spec/opcode_table.json. -/
inductive Instr where
  | nromPrgRead (a : Word)
  | nromPrgWrite (a : Word) (v : Byte)
  | nromPrgramRead (a : Word)
  | nromPrgramWrite (a : Word) (v : Byte)
  | nromChrRead (a : ChrAddr)
  | nromChrWrite (a : ChrAddr) (v : Byte)
  | uxromBankWrite (a : Word) (v : Byte)
  | uxromPrgReadLow (a : Word)
  | uxromPrgReadHigh (a : Word)
  | uxromPrgramRead (a : Word)
  | uxromPrgramWrite (a : Word) (v : Byte)
  | uxromChrRead (a : ChrAddr)
  | uxromChrWrite (a : ChrAddr) (v : Byte)
  | camericaBankWrite (a : Word) (v : Byte)
  | camericaPrgReadLow (a : Word)
  | camericaPrgReadHigh (a : Word)
  | camericaPrgramRead (a : Word)
  | camericaPrgramWrite (a : Word) (v : Byte)
  | camericaChrRead (a : ChrAddr)
  | camericaChrWrite (a : ChrAddr) (v : Byte)
  | cnromChrBankWrite (a : Word) (v : Byte)
  | cnromPrgRead (a : Word)
  | cnromChrRead (a : ChrAddr)
  | cnromChrWrite (a : ChrAddr) (v : Byte)
  | cnromPrgramRead (a : Word)
  | cnromPrgramWrite (a : Word) (v : Byte)
  | colorDreamsBankWrite (a : Word) (v : Byte)
  | colorDreamsPrgRead (a : Word)
  | colorDreamsChrRead (a : ChrAddr)
  | colorDreamsChrWrite (a : ChrAddr) (v : Byte)
  | colorDreamsPrgramRead (a : Word)
  | colorDreamsPrgramWrite (a : Word) (v : Byte)
  | axromBankWrite (a : Word) (v : Byte)
  | axromPrgRead (a : Word)
  | axromPrgramRead (a : Word)
  | axromPrgramWrite (a : Word) (v : Byte)
  | axromChrRead (a : ChrAddr)
  | axromChrWrite (a : ChrAddr) (v : Byte)
  | mmc1ResetWrite (a : Word) (v : Byte)
  | mmc1WriteControl (a : Word) (v : Byte)
  | mmc1WriteChr0 (a : Word) (v : Byte)
  | mmc1WriteChr1 (a : Word) (v : Byte)
  | mmc1WritePrg (a : Word) (v : Byte)
  | mmc1PrgReadLow (a : Word)
  | mmc1PrgReadHigh (a : Word)
  | mmc1ChrRead (a : ChrAddr)
  | mmc1ChrWrite (a : ChrAddr) (v : Byte)
  | mmc1PrgramRead (a : Word)
  | mmc1PrgramWrite (a : Word) (v : Byte)
  | mmc3BankSelect (a : Word) (v : Byte)
  | mmc3BankData (a : Word) (v : Byte)
  | mmc3Mirroring (a : Word) (v : Byte)
  | mmc3PrgRamProtect (a : Word) (v : Byte)
  | mmc3IrqLatch (a : Word) (v : Byte)
  | mmc3IrqReload (a : Word) (v : Byte)
  | mmc3IrqDisable (a : Word) (v : Byte)
  | mmc3IrqEnable (a : Word) (v : Byte)
  | mmc3PrgRead (a : Word)
  | mmc3PrgramRead (a : Word)
  | mmc3PrgramWrite (a : Word) (v : Byte)
  | mmc3ChrRead (a : ChrAddr)
  | mmc3ChrWrite (a : ChrAddr) (v : Byte)
  | mmc2PrgBank (a : Word) (v : Byte)
  | mmc2ChrFd0 (a : Word) (v : Byte)
  | mmc2ChrFe0 (a : Word) (v : Byte)
  | mmc2ChrFd1 (a : Word) (v : Byte)
  | mmc2ChrFe1 (a : Word) (v : Byte)
  | mmc2Mirroring (a : Word) (v : Byte)
  | mmc2IgnoredWrite (a : Word) (v : Byte)
  | mmc2PrgRead (a : Word)
  | mmc2ChrRead (a : ChrAddr)
  | mmc2ChrWrite (a : ChrAddr) (v : Byte)
  | mmc2PrgramRead (a : Word)
  | mmc2PrgramWrite (a : Word) (v : Byte)
  | mmc4PrgBank (a : Word) (v : Byte)
  | mmc4ChrFd0 (a : Word) (v : Byte)
  | mmc4ChrFe0 (a : Word) (v : Byte)
  | mmc4ChrFd1 (a : Word) (v : Byte)
  | mmc4ChrFe1 (a : Word) (v : Byte)
  | mmc4Mirroring (a : Word) (v : Byte)
  | mmc4IgnoredWrite (a : Word) (v : Byte)
  | mmc4PrgRead (a : Word)
  | mmc4ChrRead (a : ChrAddr)
  | mmc4ChrWrite (a : ChrAddr) (v : Byte)
  | mmc4PrgramRead (a : Word)
  | mmc4PrgramWrite (a : Word) (v : Byte)
  | mmc5AudioWrite (a : Word) (v : Byte)
  | mmc5AudioWriteHi (a : Word) (v : Byte)
  | mmc5AudioWriteTop (a : Word) (v : Byte)
  | mmc5PrgMode (a : Word) (v : Byte)
  | mmc5ChrMode (a : Word) (v : Byte)
  | mmc5RamProtect1 (a : Word) (v : Byte)
  | mmc5RamProtect2 (a : Word) (v : Byte)
  | mmc5ExramMode (a : Word) (v : Byte)
  | mmc5NtMap (a : Word) (v : Byte)
  | mmc5FillTile (a : Word) (v : Byte)
  | mmc5FillAttr (a : Word) (v : Byte)
  | mmc5PrgRamBank (a : Word) (v : Byte)
  | mmc5ChrUpper (a : Word) (v : Byte)
  | mmc5IrqTarget (a : Word) (v : Byte)
  | mmc5IrqEnable (a : Word) (v : Byte)
  | mmc5MulA (a : Word) (v : Byte)
  | mmc5MulB (a : Word) (v : Byte)
  | mmc5PrgBank (a : Word) (v : Byte)
  | mmc5ChrBank (a : Word) (v : Byte)
  | mmc5ChrBankB (a : Word) (v : Byte)
  | mmc5IrqStatus (a : Word)
  | mmc5MulLo (a : Word)
  | mmc5MulHi (a : Word)
  | mmc5ExramRead (a : Word)
  | mmc5ExramWrite (a : Word) (v : Byte)
  | mmc5PrgramRead (a : Word)
  | mmc5PrgRead (a : Word)
  | mmc5PrgramWrite (a : Word) (v : Byte)
  | mmc5PrgWrite (a : Word) (v : Byte)
  | mmc5ChrRead (a : ChrAddr)
  | mmc5ChrWrite (a : ChrAddr) (v : Byte)
  | vrc6Prg16 (a : Word) (v : Byte)
  | vrc6Audio9 (a : Word) (v : Byte)
  | vrc6AudioA0 (a : Word) (v : Byte)
  | vrc6AudioA1 (a : Word) (v : Byte)
  | vrc6AudioA2 (a : Word) (v : Byte)
  | vrc6AudioB0 (a : Word) (v : Byte)
  | vrc6AudioB1 (a : Word) (v : Byte)
  | vrc6AudioB2 (a : Word) (v : Byte)
  | vrc6Ctrl (a : Word) (v : Byte)
  | vrc6Prg8 (a : Word) (v : Byte)
  | vrc6ChrD (a : Word) (v : Byte)
  | vrc6ChrE (a : Word) (v : Byte)
  | vrc6IrqLatch (a : Word) (v : Byte)
  | vrc6IrqControl (a : Word) (v : Byte)
  | vrc6IrqAck (a : Word) (v : Byte)
  | vrc6IgnoredA003 (a : Word) (v : Byte)
  | vrc6IgnoredF003 (a : Word) (v : Byte)
  | vrc6PrgRead (a : Word)
  | vrc6PrgramRead (a : Word)
  | vrc6PrgramWrite (a : Word) (v : Byte)
  | vrc6ChrRead (a : ChrAddr)
  | vrc6ChrWrite (a : ChrAddr) (v : Byte)
  | vrc6aPrg16 (a : Word) (v : Byte)
  | vrc6aAudio9 (a : Word) (v : Byte)
  | vrc6aAudioA0 (a : Word) (v : Byte)
  | vrc6aAudioA1 (a : Word) (v : Byte)
  | vrc6aAudioA2 (a : Word) (v : Byte)
  | vrc6aAudioB0 (a : Word) (v : Byte)
  | vrc6aAudioB1 (a : Word) (v : Byte)
  | vrc6aAudioB2 (a : Word) (v : Byte)
  | vrc6aCtrl (a : Word) (v : Byte)
  | vrc6aPrg8 (a : Word) (v : Byte)
  | vrc6aChrD (a : Word) (v : Byte)
  | vrc6aChrE (a : Word) (v : Byte)
  | vrc6aIrqLatch (a : Word) (v : Byte)
  | vrc6aIrqControl (a : Word) (v : Byte)
  | vrc6aIrqAck (a : Word) (v : Byte)
  | vrc6aIgnoredA003 (a : Word) (v : Byte)
  | vrc6aIgnoredF003 (a : Word) (v : Byte)
  | vrc6aPrgRead (a : Word)
  | vrc6aPrgramRead (a : Word)
  | vrc6aPrgramWrite (a : Word) (v : Byte)
  | vrc6aChrRead (a : ChrAddr)
  | vrc6aChrWrite (a : ChrAddr) (v : Byte)
  | vrc7Prg0 (a : Word) (v : Byte)
  | vrc7Prg1 (a : Word) (v : Byte)
  | vrc7Prg1A4 (a : Word) (v : Byte)
  | vrc7Prg2 (a : Word) (v : Byte)
  | vrc7IgnoredWrite (a : Word) (v : Byte)
  | vrc7AudioIndex (a : Word) (v : Byte)
  | vrc7AudioData (a : Word) (v : Byte)
  | vrc7ChrALo (a : Word) (v : Byte)
  | vrc7ChrAHi (a : Word) (v : Byte)
  | vrc7ChrAHiA4 (a : Word) (v : Byte)
  | vrc7ChrBLo (a : Word) (v : Byte)
  | vrc7ChrBHi (a : Word) (v : Byte)
  | vrc7ChrBHiA4 (a : Word) (v : Byte)
  | vrc7ChrCLo (a : Word) (v : Byte)
  | vrc7ChrCHi (a : Word) (v : Byte)
  | vrc7ChrCHiA4 (a : Word) (v : Byte)
  | vrc7ChrDLo (a : Word) (v : Byte)
  | vrc7ChrDHi (a : Word) (v : Byte)
  | vrc7ChrDHiA4 (a : Word) (v : Byte)
  | vrc7Ctrl (a : Word) (v : Byte)
  | vrc7IrqLatch (a : Word) (v : Byte)
  | vrc7IrqLatchA4 (a : Word) (v : Byte)
  | vrc7IrqControl (a : Word) (v : Byte)
  | vrc7IrqAck (a : Word) (v : Byte)
  | vrc7IrqAckA4 (a : Word) (v : Byte)
  | vrc7PrgRead (a : Word)
  | vrc7PrgramRead (a : Word)
  | vrc7PrgramWrite (a : Word) (v : Byte)
  | vrc7ChrRead (a : ChrAddr)
  | vrc7ChrWrite (a : ChrAddr) (v : Byte)
  | fdsRamRead6 (a : Word)
  | fdsRamRead8 (a : Word)
  | fdsRamReadC (a : Word)
  | fdsRamWrite6 (a : Word) (v : Byte)
  | fdsRamWrite8 (a : Word) (v : Byte)
  | fdsRamWriteC (a : Word) (v : Byte)
  | fdsBiosRead (a : Word)
  | fdsBiosWrite (a : Word) (v : Byte)
  | fdsTimerReloadLo (a : Word) (v : Byte)
  | fdsTimerReloadHi (a : Word) (v : Byte)
  | fdsTimerCtrl (a : Word) (v : Byte)
  | fdsMasterIo (a : Word) (v : Byte)
  | fdsWriteData (a : Word) (v : Byte)
  | fdsControl (a : Word) (v : Byte)
  | fdsExtOut (a : Word) (v : Byte)
  | fdsDiskStatus (a : Word)
  | fdsReadData (a : Word)
  | fdsDriveStatus (a : Word)
  | fdsExtIn (a : Word)
  | fdsWaveWrite (a : Word) (v : Byte)
  | fdsWaveRead (a : Word)
  | fdsAudioWrite (a : Word) (v : Byte)
  | fdsAudioWriteHi (a : Word) (v : Byte)
  | fdsAudioWriteTop (a : Word) (v : Byte)
  | fdsChrRead (a : ChrAddr)
  | fdsChrWrite (a : ChrAddr) (v : Byte)
  deriving DecidableEq, Repr

end Sys2Proof
end

