-- ==== Sys2Proof/Machine/Registers.lean ====
section
/-!
DEFINITION. The bank register files (10_state.md R110 to R170), one structure per table of the
spec, with the reset value of every field. UxROM and Camerica share the table of R111, MMC2 and
MMC4 that of R140, VRC6 and VRC6a that of R160; each pair has one file here, since one kind is
active at a time (log entry 14). NROM has no registers (R110).
-/

namespace Sys2Proof.Machine

/-- UxROM and Camerica (R111). -/
structure UxromRegs where
  prgBank : BitVec 8
  deriving DecidableEq, Repr

/-- R111: "UxROM bank register returns to 0". -/
def UxromRegs.reset : UxromRegs := { prgBank := 0 }

/-- CNROM (R112). -/
structure CnromRegs where
  chrBank : BitVec 2
  deriving DecidableEq, Repr

/-- R112. -/
def CnromRegs.reset : CnromRegs := { chrBank := 0 }

/-- Color Dreams (R113). -/
structure ColorDreamsRegs where
  prgBank : BitVec 2
  chrBank : BitVec 4
  deriving DecidableEq, Repr

/-- R113. -/
def ColorDreamsRegs.reset : ColorDreamsRegs := { prgBank := 0, chrBank := 0 }

/-- AxROM (R114). -/
structure AxromRegs where
  prgBank : BitVec 3
  deriving DecidableEq, Repr

/-- R114. -/
def AxromRegs.reset : AxromRegs := { prgBank := 0 }

/-- MMC1 (R120). `shiftCount` is the number of serial bits held, 0 to 4. -/
structure Mmc1Regs where
  shift      : BitVec 5
  shiftCount : Fin 5
  control    : BitVec 5
  chr0       : BitVec 5
  chr1       : BitVec 5
  prg        : BitVec 5
  deriving DecidableEq, Repr

/-- R120: `control` resets to 0x0C (decision D18), the rest to 0. -/
def Mmc1Regs.reset : Mmc1Regs :=
  { shift := 0, shiftCount := 0, control := 0x0C, chr0 := 0, chr1 := 0, prg := 0 }

/-- MMC3 (R130). `r` holds R0 to R7. -/
structure Mmc3Regs where
  bankSelect    : BitVec 8
  r             : Vector (BitVec 8) 8
  mirroring     : BitVec 1
  prgRamProtect : BitVec 8
  irqLatch      : BitVec 8
  irqCounter    : BitVec 8
  irqReload     : Bool
  irqEnable     : Bool
  irqPending    : Bool
  lastA12       : BitVec 1
  deriving DecidableEq, Repr

/-- R130: `prg_ram_protect` resets to 0x80 (decision D22), the rest to 0 or false. -/
def Mmc3Regs.reset : Mmc3Regs :=
  { bankSelect := 0, r := Vector.replicate 8 0, mirroring := 0, prgRamProtect := 0x80,
    irqLatch := 0, irqCounter := 0, irqReload := false, irqEnable := false,
    irqPending := false, lastA12 := 0 }

/-- The two values of an MMC2/MMC4 latch, $FD and $FE (R140). -/
inductive Latch where
  | fd
  | fe
  deriving DecidableEq, Repr

/-- MMC2 and MMC4 (R140). -/
structure Mmc24Regs where
  prgBank   : BitVec 4
  chrFd0    : BitVec 5
  chrFe0    : BitVec 5
  chrFd1    : BitVec 5
  chrFe1    : BitVec 5
  mirroring : BitVec 1
  latch0    : Latch
  latch1    : Latch
  deriving DecidableEq, Repr

/-- R140: both latches reset to $FE (decision D26), the rest to 0. -/
def Mmc24Regs.reset : Mmc24Regs :=
  { prgBank := 0, chrFd0 := 0, chrFe0 := 0, chrFd1 := 0, chrFe1 := 0, mirroring := 0,
    latch0 := .fe, latch1 := .fe }

/-- MMC5 (R150), less the ExRAM, which is a memory of State. -/
structure Mmc5Regs where
  prgMode     : BitVec 2
  chrMode     : BitVec 2
  ramProtect1 : BitVec 2
  ramProtect2 : BitVec 2
  exramMode   : BitVec 2
  ntMap       : BitVec 8
  fillTile    : BitVec 8
  fillAttr    : BitVec 2
  prgReg      : Vector (BitVec 8) 5
  chrReg      : Vector (BitVec 8) 12
  chrUpper    : BitVec 2
  irqScanline : BitVec 8
  irqEnable   : Bool
  irqPending  : Bool
  mulA        : BitVec 8
  mulB        : BitVec 8
  audio       : Vector (BitVec 8) 22
  deriving DecidableEq, Repr

/-- R150: `prg_mode` 3, `prg_reg[1..4]` and both multiplier inputs 0xFF (decision D34), the
rest 0 or false. -/
def Mmc5Regs.reset : Mmc5Regs :=
  { prgMode := 3, chrMode := 0, ramProtect1 := 0, ramProtect2 := 0, exramMode := 0, ntMap := 0,
    fillTile := 0, fillAttr := 0, prgReg := #v[0x00, 0xFF, 0xFF, 0xFF, 0xFF],
    chrReg := Vector.replicate 12 0, chrUpper := 0, irqScanline := 0, irqEnable := false,
    irqPending := false, mulA := 0xFF, mulB := 0xFF, audio := Vector.replicate 22 0 }

/-- The scanline IRQ unit VRC6, VRC6a and VRC7 have in common (R160, R165): `irq_latch`,
`irq_ctrl` (bit 0 A, bit 1 E, bit 2 M), `irq_counter`, `irq_pending`. -/
structure VrcIrq where
  latch   : BitVec 8
  ctrl    : BitVec 3
  counter : BitVec 8
  pending : Bool
  deriving DecidableEq, Repr

/-- R160, R165. -/
def VrcIrq.reset : VrcIrq := { latch := 0, ctrl := 0, counter := 0, pending := false }

/-- VRC6 and VRC6a (R160). -/
structure Vrc6Regs where
  prg16 : BitVec 4
  prg8  : BitVec 5
  chr   : Vector (BitVec 8) 8
  ctrl  : BitVec 8
  irq   : VrcIrq
  audio : Vector (BitVec 8) 10
  deriving DecidableEq, Repr

/-- R160. -/
def Vrc6Regs.reset : Vrc6Regs :=
  { prg16 := 0, prg8 := 0, chr := Vector.replicate 8 0, ctrl := 0, irq := VrcIrq.reset,
    audio := Vector.replicate 10 0 }

/-- VRC7 (R165). -/
structure Vrc7Regs where
  prg        : Vector (BitVec 6) 3
  chr        : Vector (BitVec 8) 8
  ctrl       : BitVec 8
  irq        : VrcIrq
  audioIndex : BitVec 8
  audioData  : Vector (BitVec 8) 64
  deriving DecidableEq, Repr

/-- R165. -/
def Vrc7Regs.reset : Vrc7Regs :=
  { prg := Vector.replicate 3 0, chr := Vector.replicate 8 0, ctrl := 0, irq := VrcIrq.reset,
    audioIndex := 0, audioData := Vector.replicate 64 0 }

/-- FDS (R170). -/
structure FdsRegs where
  timerReload  : BitVec 16
  timerCounter : BitVec 16
  timerCtrl    : BitVec 2
  masterIo     : BitVec 2
  writeData    : BitVec 8
  fdsCtrl      : BitVec 8
  extOut       : BitVec 8
  irqPending   : Bool
  waveRam      : Vector (BitVec 6) 64
  audio        : Vector (BitVec 8) 11
  deriving DecidableEq, Repr

/-- R170. -/
def FdsRegs.reset : FdsRegs :=
  { timerReload := 0, timerCounter := 0, timerCtrl := 0, masterIo := 0, writeData := 0,
    fdsCtrl := 0, extOut := 0, irqPending := false, waveRam := Vector.replicate 64 0,
    audio := Vector.replicate 11 0 }

/-- All register files. The active kind uses its own; the others stay at reset (log entry 14). -/
structure RegFiles where
  uxrom       : UxromRegs
  cnrom       : CnromRegs
  colorDreams : ColorDreamsRegs
  axrom       : AxromRegs
  mmc1        : Mmc1Regs
  mmc3        : Mmc3Regs
  mmc24       : Mmc24Regs
  mmc5        : Mmc5Regs
  vrc6        : Vrc6Regs
  vrc7        : Vrc7Regs
  fds         : FdsRegs
  deriving DecidableEq, Repr

/-- Every register file at its reset values. -/
def RegFiles.reset : RegFiles :=
  { uxrom := UxromRegs.reset, cnrom := CnromRegs.reset, colorDreams := ColorDreamsRegs.reset,
    axrom := AxromRegs.reset, mmc1 := Mmc1Regs.reset, mmc3 := Mmc3Regs.reset,
    mmc24 := Mmc24Regs.reset, mmc5 := Mmc5Regs.reset, vrc6 := Vrc6Regs.reset,
    vrc7 := Vrc7Regs.reset, fds := FdsRegs.reset }

/-- "every register field of the active kind <- its reset value" (R1300); no other file moves. -/
def RegFiles.resetKind (k : Kind) (r : RegFiles) : RegFiles :=
  match k with
  | .nrom => r
  | .uxrom => { r with uxrom := UxromRegs.reset }
  | .camerica => { r with uxrom := UxromRegs.reset }
  | .cnrom => { r with cnrom := CnromRegs.reset }
  | .colorDreams => { r with colorDreams := ColorDreamsRegs.reset }
  | .axrom => { r with axrom := AxromRegs.reset }
  | .mmc1 => { r with mmc1 := Mmc1Regs.reset }
  | .mmc3 => { r with mmc3 := Mmc3Regs.reset }
  | .mmc2 => { r with mmc24 := Mmc24Regs.reset }
  | .mmc4 => { r with mmc24 := Mmc24Regs.reset }
  | .mmc5 => { r with mmc5 := Mmc5Regs.reset }
  | .vrc6 => { r with vrc6 := Vrc6Regs.reset }
  | .vrc6a => { r with vrc6 := Vrc6Regs.reset }
  | .vrc7 => { r with vrc7 := Vrc7Regs.reset }
  | .fds => { r with fds := FdsRegs.reset }

end Sys2Proof.Machine
end

