-- ==== Sys2Proof/Machine/State.lean ====
section
/-!
DEFINITION. The state of the cartridge block (10_state.md), the requests its collaborators
present (30_encoding.md R300), the answers it gives, and the reasons a step can stop.
-/

namespace Sys2Proof.Machine

/-- What the loader hands to construction (R403, R10 to R18). `prgRom` and `chrRom` are the raw
buffers, a size and their bytes other than 0; `allocOk` is the environment's answer to the
block's allocations (R404, log entry 8); `fdsTicks` is the OPEN parameter
`FDS_TICKS_PER_SCANLINE` (R18, log entry 10). -/
structure Metadata where
  mapperNumber  : Word
  prgRom        : Memory
  chrRom        : Memory
  prgRamSize    : Nat
  hasBattery    : Bool
  mirrorDefault : Mirror
  fdsTicks      : Nat
  allocOk       : Bool
  deriving DecidableEq, Repr

/-- One transaction a collaborator presents (R300). `hostSave` carries whether the host's write
succeeded, `hostLoad` the bytes the host read, `none` where its read failed (R420, R421). -/
inductive Request where
  | bus (b : Bus)
  | scanline (current : Word)
  | reset
  | irqState
  | irqClear
  | construct (m : Metadata)
  | hostSave (ioOk : Bool)
  | hostLoad (d : Option (List Byte))
  | shutdown
  deriving DecidableEq, Repr

/-- Why construction produced no cartridge (R1201). -/
inductive ConstructFailure where
  /-- The mapper number is not in the factory table (R402). -/
  | unsupported
  /-- `PRG_ROM_SIZE = 0` (R403). -/
  | invalidImage
  /-- A buffer the block must allocate could not be allocated (R404). -/
  | allocFailure
  deriving DecidableEq, Repr

/-- What the last transaction answered (R300, R35). -/
inductive Answer where
  /-- The transaction has no result (a write, scanline, reset, irq_clear, shutdown). -/
  | nothing
  /-- The byte of a read. -/
  | byte (v : Byte)
  /-- The level of `irq_state`. -/
  | flag (b : Bool)
  /-- Construction succeeded. -/
  | cartridge
  /-- Construction failed. -/
  | failed (why : ConstructFailure)
  /-- A host operation answered `Ok`; `written` is the file a save wrote, `none` where it wrote
  none. -/
  | ok (written : Option (List Byte))
  /-- A host operation answered `Err(Io)` (R1203). -/
  | errIo
  deriving DecidableEq, Repr

/-- The configuration state of R102, fixed at construction and never written afterwards. -/
structure Image where
  kind          : Kind
  mapperNumber  : Word
  prgRom        : Memory
  chrRom        : Memory
  hasBattery    : Bool
  mirrorDefault : Mirror
  fdsTicks      : Nat
  deriving DecidableEq, Repr

/-- The whole state. `present`: a cartridge exists (R402, R418). `image`: R102. `prgRam`, `chrRam`,
`mirrorMode`, `sramDirty`: R103. `exram`: R150. `regs`: R110 to R170. The last three are the
model's own: `requests`, the serialised stream of pending transactions, oldest first (R240, log
entry 1); `answer`, what the last one answered (log entry 2); `triggers`, the number of
`trigger_irq()` calls emitted (R35, log entry 3). -/
structure State where
  present    : Bool
  image      : Image
  prgRam     : Memory
  chrRam     : Memory
  exram      : Memory
  mirrorMode : Mirror
  sramDirty  : Bool
  regs       : RegFiles
  requests   : List Request
  answer     : Answer
  triggers   : Nat
  deriving DecidableEq, Repr

/-- Why the machine stops. -/
inductive Fault where
  /-- Raised by `handle` alone, for a transaction other than construct when no cartridge exists:
  R418 "no transaction is defined afterwards", R402 "No block state exists afterwards".
  Safe: the model stops where the spec defines nothing. -/
  | noCartridge
  deriving DecidableEq, Repr

/-- Why an instruction has no meaning. -/
inductive Refusal where
  /-- Raised by an arm of `exec` for an instruction not modelled yet; no arm raises it now.
  Safe. -/
  | notModelled (mnemonic : String)
  deriving DecidableEq, Repr

/-- Power-on before any construction: no cartridge, every register at its reset value
(R1303, R1304), every memory absent, nothing requested. The values of `image` are the model's
(log entry 4): construction writes every one of them before a transaction can read it. -/
def State.reset : State :=
  { present := false
    image := { kind := .nrom, mapperNumber := 0, prgRom := Memory.zeroed 0,
               chrRom := Memory.zeroed 0, hasBattery := false, mirrorDefault := .horizontal,
               fdsTicks := 1 }
    prgRam := Memory.zeroed 0
    chrRam := Memory.zeroed 0
    exram := Memory.zeroed 0
    mirrorMode := .horizontal
    sramDirty := false
    regs := RegFiles.reset
    requests := []
    answer := .nothing
    triggers := 0 }

end Sys2Proof.Machine
end

