-- ==== Sys2Proof/Machine/Ops.lean ====
section
/-!
DEFINITION. The named operations over memories and registers: bank arithmetic and the ROM/RAM
multiplexer (20_memory.md R210 to R214), the shared windows (R220 to R231), the mirroring lock
(10_state.md R105), register arrays, and the interrupt output: raising an IRQ is ONE operation,
`raiseIrq` (60_exceptions.md R1210), with its acknowledge `ackIrq` beside it (R1212).
-/

namespace Sys2Proof.Machine

open Sys2Proof.Config

/-- What a meaning answers. -/
abbrev Result := Host.Outcome State Fault Refusal

/-- End a read transaction with the byte `v` (R35). -/
def reply (v : Byte) (s : State) : Result := .next { s with answer := .byte v }

/-- End a transaction that has no result. -/
def done (s : State) : Result := .next { s with answer := .nothing }

/-! ## Register arrays -/

/-- Element `i` of a register array `s.R[i]` (R33). -/
def regAt {w n : Nat} (v : Vector (BitVec w) n) (i : Nat) : BitVec w := v[i]?.getD 0

/-- The array with element `i` replaced. -/
def regSet {w n : Nat} (v : Vector (BitVec w) n) (i : Nat) (x : BitVec w) : Vector (BitVec w) n :=
  v.setIfInBounds i x

/-! ## Bank arithmetic -/

/-- Bank count (R210). -/
def nbanks (size bs : Nat) : Nat := max 1 (size / bs)

/-- The offset that R211, R212 and R213 give a bank number, a bank size and an address. -/
def bankOffset (size b bs a : Nat) : Nat := ((b % nbanks size bs) * bs + a % bs) % size

/-- Banks counted from the end, on integers with the non-negative remainder (R214). -/
def fromEnd (size bs k : Nat) : Nat := (((nbanks size bs : Int) - k) % (nbanks size bs : Int)).toNat

/-- `FromEnd(bs, k)` of the PRG-ROM (R214). -/
def prgFromEnd (s : State) (bs k : Nat) : Nat := fromEnd s.image.prgRom.size bs k

/-- `PrgRomBank(b, bs, a)` (R211). -/
def prgRomBank (s : State) (b bs : Nat) (a : Word) : Byte :=
  s.image.prgRom.read (bankOffset s.image.prgRom.size b bs a.toNat)

/-- `PrgRamBank(b, bs, a)` (R213). -/
def prgRamBank (s : State) (b bs : Nat) (a : Word) : Byte :=
  if s.prgRam.size = 0 then 0 else s.prgRam.read (bankOffset s.prgRam.size b bs a.toNat)

/-- A byte stored into `prg_ram`, which sets `sram_dirty` (R106). -/
def storePrgRam (s : State) (o : Nat) (v : Byte) : State :=
  { s with prgRam := s.prgRam.write o v, sramDirty := true }

/-- `PrgRamStore(b, bs, a, v)` (R213). -/
def prgRamStore (s : State) (b bs : Nat) (a : Word) (v : Byte) : State :=
  if s.prgRam.size = 0 then s else storePrgRam s (bankOffset s.prgRam.size b bs a.toNat) v

/-- The CHR target: `chr_ram` if present, `chr_rom` otherwise (R212). -/
def chrTarget (s : State) : Memory := if s.chrRam.size = 0 then s.image.chrRom else s.chrRam

/-- `ChrBank(b, bs, a)` (R212). -/
def chrBank (s : State) (b bs : Nat) (a : ChrAddr) : Byte :=
  (chrTarget s).read (bankOffset (chrTarget s).size b bs a.toNat)

/-- `ChrStore(b, bs, a, v)` (R212). -/
def chrStore (s : State) (b bs : Nat) (a : ChrAddr) (v : Byte) : State :=
  if s.chrRam.size = 0 then s
  else { s with chrRam := s.chrRam.write (bankOffset s.chrRam.size b bs a.toNat) v }

/-! ## Shared windows -/

/-- The standard PRG-RAM window, read (R220). -/
def stdPrgRam (s : State) (a : Word) : Byte := prgRamBank s 0 k8 a

/-- The standard PRG-RAM window, write (R221). -/
def stdPrgRamStore (s : State) (a : Word) (v : Byte) : State := prgRamStore s 0 k8 a v

/-- The unbanked CHR window, read (R230). -/
def unbankedChr (s : State) (a : ChrAddr) : Byte := chrBank s 0 k8 a

/-- The unbanked CHR window, write (R231). -/
def unbankedChrStore (s : State) (a : ChrAddr) (v : Byte) : State := chrStore s 0 k8 a v

/-! ## Mirroring -/

/-- A mirroring-register write reaches `mirror_mode` unless the cartridge is four-screen (R105). -/
def setMirror (m : Mirror) (s : State) : State :=
  if s.image.mirrorDefault = .fourScreen then s else { s with mirrorMode := m }

/-! ## Interrupt output -/

/-- `irq_pending` of a kind; false on the kinds without an IRQ unit (R416). -/
def RegFiles.pending (k : Kind) (r : RegFiles) : Bool :=
  match k with
  | .mmc3 => r.mmc3.irqPending
  | .mmc5 => r.mmc5.irqPending
  | .vrc6 => r.vrc6.irq.pending
  | .vrc6a => r.vrc6.irq.pending
  | .vrc7 => r.vrc7.irq.pending
  | .fds => r.fds.irqPending
  | .nrom => false
  | .uxrom => false
  | .camerica => false
  | .cnrom => false
  | .colorDreams => false
  | .axrom => false
  | .mmc1 => false
  | .mmc2 => false
  | .mmc4 => false

/-- `irq_pending <- b` on a kind; nothing on the kinds without an IRQ unit (R417). -/
def RegFiles.setPending (k : Kind) (b : Bool) (r : RegFiles) : RegFiles :=
  match k with
  | .mmc3 => { r with mmc3.irqPending := b }
  | .mmc5 => { r with mmc5.irqPending := b }
  | .vrc6 => { r with vrc6.irq.pending := b }
  | .vrc6a => { r with vrc6.irq.pending := b }
  | .vrc7 => { r with vrc7.irq.pending := b }
  | .fds => { r with fds.irqPending := b }
  | .nrom => r
  | .uxrom => r
  | .camerica => r
  | .cnrom => r
  | .colorDreams => r
  | .axrom => r
  | .mmc1 => r
  | .mmc2 => r
  | .mmc4 => r

/-- The block's one interrupt action: `irq_pending <- true`, then `emit trigger_irq()`, also when
the flag was already true (R1210, R1214). -/
def raiseIrq (k : Kind) (s : State) : State :=
  { s with regs := s.regs.setPending k true, triggers := s.triggers + 1 }

/-- An explicit acknowledge: `irq_pending <- false` (R1212, R417). No event is emitted. -/
def ackIrq (k : Kind) (s : State) : State := { s with regs := s.regs.setPending k false }

end Sys2Proof.Machine
end

