-- ==== Sys2Proof/Machine/Operands.lean ====
section
/-!
DEFINITION. The operand forms: for every banked window, the bank number and the bank size its
registers select (the window functions of the mapper files), and the address bits the rules use
as register indexes (30_encoding.md R302, 46_vrc6_vrc7.md R1000).
-/

namespace Sys2Proof.Machine

open Sys2Proof.Config

/-- A bank number and the size of its bank. -/
structure Window where
  bank : Nat
  size : Nat
  deriving DecidableEq, Repr

/-- The byte of PRG-ROM that a window shows at an address. -/
def prgWindowByte (s : State) (w : Window) (a : Word) : Byte := prgRomBank s w.bank w.size a

/-- The CHR byte that a window shows at an address. -/
def chrWindowByte (s : State) (w : Window) (a : ChrAddr) : Byte := chrBank s w.bank w.size a

/-- A byte stored through a CHR window. -/
def chrWindowStore (s : State) (w : Window) (a : ChrAddr) (v : Byte) : State :=
  chrStore s w.bank w.size a v

/-! ## MMC1 -/

/-- MMC1's $8000–$BFFF column of R607. -/
def mmc1PrgLow (r : Mmc1Regs) : Window :=
  if r.control.extractLsb 3 2 = 2 then ⟨0, k16⟩
  else if r.control.extractLsb 3 2 = 3 then ⟨(r.prg.extractLsb 3 0).toNat, k16⟩
  else ⟨(r.prg.extractLsb 3 1).toNat, k32⟩

/-- MMC1's $C000–$FFFF column of R607; `last` is `FromEnd(16K, 1)`. -/
def mmc1PrgHigh (r : Mmc1Regs) (last : Nat) : Window :=
  if r.control.extractLsb 3 2 = 2 then ⟨(r.prg.extractLsb 3 0).toNat, k16⟩
  else if r.control.extractLsb 3 2 = 3 then ⟨last, k16⟩
  else ⟨(r.prg.extractLsb 3 1).toNat, k32⟩

/-- MMC1's CHR window function (R608). -/
def mmc1Chr (r : Mmc1Regs) (a : ChrAddr) : Window :=
  if r.control.extractLsb 4 4 = 0 then ⟨(r.chr0.extractLsb 4 1).toNat, k8⟩
  else if a.extractLsb 12 12 = 0 then ⟨r.chr0.toNat, k4⟩
  else ⟨r.chr1.toNat, k4⟩

/-! ## MMC3 -/

/-- The bank of MMC3's PRG window at `a` (R709); `last` is `FromEnd(8K, 1)` and `penultimate` is
`FromEnd(8K, 2)`. -/
def mmc3PrgBank (r : Mmc3Regs) (last penultimate : Nat) (a : Word) : Nat :=
  let p6 := ((regAt r.r 6).extractLsb 5 0).toNat
  let p7 := ((regAt r.r 7).extractLsb 5 0).toNat
  let w := a.extractLsb 14 13
  if w = 3 then last
  else if w = 1 then p7
  else if w = 0 then (if r.bankSelect.extractLsb 6 6 = 0 then p6 else penultimate)
  else (if r.bankSelect.extractLsb 6 6 = 0 then penultimate else p6)

/-- MMC3's CHR window at `a` (R711): `ac` is the address with bit 12 inverted by
`bank_select[7]`. -/
def mmc3Chr (r : Mmc3Regs) (a : ChrAddr) : Window :=
  let ac := a ^^^ ((r.bankSelect.extractLsb 7 7).setWidth 13 <<< 12)
  if ac < 0x0800 then ⟨(regAt r.r 0).toNat, k2⟩
  else if ac < 0x1000 then ⟨(regAt r.r 1).toNat, k2⟩
  else if ac < 0x1400 then ⟨(regAt r.r 2).toNat, k1⟩
  else if ac < 0x1800 then ⟨(regAt r.r 3).toNat, k1⟩
  else if ac < 0x1C00 then ⟨(regAt r.r 4).toNat, k1⟩
  else ⟨(regAt r.r 5).toNat, k1⟩

/-! ## MMC2 and MMC4 -/

/-- The 4KB CHR bank of MMC2 and MMC4 at `a`, by the latch of its half (R812). -/
def mmc24Chr (r : Mmc24Regs) (a : ChrAddr) : Window :=
  if a.extractLsb 12 12 = 0 then ⟨(if r.latch0 = .fd then r.chrFd0 else r.chrFe0).toNat, k4⟩
  else ⟨(if r.latch1 = .fd then r.chrFd1 else r.chrFe1).toNat, k4⟩

/-! ## MMC5 -/

/-- Whether an MMC5 PRG window shows ROM or RAM (R930). -/
inductive Source where
  | rom
  | ram
  deriving DecidableEq, Repr

/-- `sel(r)` (R930): bit 7 set selects ROM. -/
def mmc5Sel (r : Byte) : Source := if r.extractLsb 7 7 = 1 then .rom else .ram

/-- MMC5's `PrgWin(a)` (R930). -/
def mmc5PrgWin (r : Mmc5Regs) (a : Word) : Source × Window :=
  let r1 := regAt r.prgReg 1
  let r2 := regAt r.prgReg 2
  let r3 := regAt r.prgReg 3
  let r4 := regAt r.prgReg 4
  let w := a.extractLsb 14 13
  if r.prgMode = 0 then (.rom, ⟨(r4.extractLsb 6 0 >>> 2).toNat, k32⟩)
  else if r.prgMode = 1 then
    if w = 0 ∨ w = 1 then (mmc5Sel r2, ⟨(r2.extractLsb 6 0 >>> 1).toNat, k16⟩)
    else (.rom, ⟨(r4.extractLsb 6 0 >>> 1).toNat, k16⟩)
  else if r.prgMode = 2 then
    if w = 0 ∨ w = 1 then (mmc5Sel r2, ⟨(r2.extractLsb 6 0 >>> 1).toNat, k16⟩)
    else if w = 2 then (mmc5Sel r3, ⟨(r3.extractLsb 6 0).toNat, k8⟩)
    else (.rom, ⟨(r4.extractLsb 6 0).toNat, k8⟩)
  else
    if w = 0 then (mmc5Sel r1, ⟨(r1.extractLsb 6 0).toNat, k8⟩)
    else if w = 1 then (mmc5Sel r2, ⟨(r2.extractLsb 6 0).toNat, k8⟩)
    else if w = 2 then (mmc5Sel r3, ⟨(r3.extractLsb 6 0).toNat, k8⟩)
    else (.rom, ⟨(r4.extractLsb 6 0).toNat, k8⟩)

/-- `RamWritable()` (R935). -/
def mmc5RamWritable (r : Mmc5Regs) : Bool := r.ramProtect1 == 2 && r.ramProtect2 == 1

/-- MMC5's CHR window function, set A only (R940). -/
def mmc5Chr (r : Mmc5Regs) (a : ChrAddr) : Window :=
  if r.chrMode = 0 then ⟨(regAt r.chrReg 7).toNat, k8⟩
  else if r.chrMode = 1 then
    ⟨(regAt r.chrReg (if a.extractLsb 12 12 = 0 then 3 else 7)).toNat, k4⟩
  else if r.chrMode = 2 then
    ⟨(regAt r.chrReg (2 * (a.extractLsb 12 11).toNat + 1)).toNat, k2⟩
  else ⟨(regAt r.chrReg (a.extractLsb 12 10).toNat).toNat, k1⟩

/-! ## VRC6, VRC6a and VRC7 -/

/-- R1000 on VRC6: the register name keeps the low two address bits. -/
def normalizeVrc6 (a : Word) : Word := (a &&& 0xF000) ||| (a &&& 0x0003)

/-- R1000 on VRC6a: the low two address pins are exchanged. -/
def normalizeVrc6a (a : Word) : Word :=
  (a &&& 0xF000) ||| ((a.extractLsb 0 0).setWidth 16 <<< 1) ||| (a.extractLsb 1 1).setWidth 16

/-- `n[1:0]` of a normalised VRC6 address, as a register index (R1002, R1005). -/
def vrc6Index (n : Word) : Nat := (n.extractLsb 1 0).toNat

/-- VRC6's PRG window at `a` (R1010); `last` is `FromEnd(8K, 1)`. -/
def vrc6Prg (r : Vrc6Regs) (last : Nat) (a : Word) : Window :=
  if a.extractLsb 14 14 = 0 then ⟨r.prg16.toNat, k16⟩
  else if a.extractLsb 13 13 = 0 then ⟨r.prg8.toNat, k8⟩
  else ⟨last, k8⟩

/-- The 1KB CHR bank of VRC6, VRC6a and VRC7 at `a` (R1012, R1063). -/
def vrcChr (chr : Vector (BitVec 8) 8) (a : ChrAddr) : Window :=
  ⟨(regAt chr (a.extractLsb 12 10).toNat).toNat, k1⟩

/-- VRC7's PRG window at `a` (R1061); `last` is `FromEnd(8K, 1)`. -/
def vrc7Prg (r : Vrc7Regs) (last : Nat) (a : Word) : Window :=
  let w := a.extractLsb 14 13
  if w = 3 then ⟨last, k8⟩ else ⟨(regAt r.prg w.toNat).toNat, k8⟩

/-! ## FDS -/

/-- The linear offset into the FDS's onboard RAM (R1102, R1103). -/
def fdsRamOffset (s : State) (a : Word) : Nat := (a.toNat - 0x6000) % s.prgRam.size

end Sys2Proof.Machine
end

