-- ==== Sys2Proof/Machine/Flags.lean ====
section
/-!
DEFINITION. Every flag computation of the block: the mirroring codes, the MMC1 serial port, the
MMC3 A12 edge detector and IRQ counter (43_mmc3.md R720, R721), the MMC2/MMC4 latches (R813),
the MMC5 scanline compare (R945), the VRC counter (R1007, R1008, R1020) and the FDS timer (R1130).
-/

namespace Sys2Proof.Machine

open Sys2Proof.Config

/-! ## Mirroring codes -/

/-- MMC1's two-bit code (R606). -/
def mmc1Mirror (m : BitVec 2) : Mirror :=
  if m = 0 then .singleA else if m = 1 then .singleB else if m = 2 then .vertical else .horizontal

/-- The one-bit code of MMC3, MMC2, MMC4 and the FDS: 0 vertical, 1 horizontal (R703, R806,
R1115). -/
def hvMirror (m : BitVec 1) : Mirror := if m = 0 then .vertical else .horizontal

/-- The two-bit code of VRC6, VRC6a and VRC7 (R1003, R1057). -/
def vrcMirror (m : BitVec 2) : Mirror :=
  if m = 0 then .vertical else if m = 1 then .horizontal else if m = 2 then .singleA else .singleB

/-- AxROM's nametable bit (R550). -/
def axromMirror (m : BitVec 1) : Mirror := if m = 1 then .singleB else .singleA

/-- MMC5's nametable mapping, where it names one of the five arrangements (R906). -/
def mmc5Mirror (v : Byte) : Option Mirror :=
  if v = 0x50 then some .horizontal
  else if v = 0x44 then some .vertical
  else if v = 0x00 then some .singleA
  else if v = 0x55 then some .singleB
  else none

/-! ## MMC1 serial port -/

/-- `Commit(target, v5)` (R600): the register that the fifth write's `addr[14:13]` selects
(R602 to R605). -/
def mmc1Commit (target : BitVec 2) (v : BitVec 5) (s : State) : State :=
  if target = 0 then
    setMirror (mmc1Mirror (v.extractLsb 1 0)) { s with regs.mmc1.control := v }
  else if target = 1 then { s with regs.mmc1.chr0 := v }
  else if target = 2 then { s with regs.mmc1.chr1 := v }
  else { s with regs.mmc1.prg := v }

/-- `shift | (value[0] << shift_count)` (R600). -/
def mmc1NextShift (r : Mmc1Regs) (v : Byte) : BitVec 5 :=
  r.shift ||| ((v.extractLsb 0 0).setWidth 5 <<< r.shiftCount.val)

/-- `Mmc1Shift(addr, value)` (R600). -/
def mmc1Shift (a : Word) (v : Byte) (s : State) : State :=
  let sh := mmc1NextShift s.regs.mmc1 v
  if s.regs.mmc1.shiftCount = 4 then
    mmc1Commit (a.extractLsb 14 13) sh
      { s with regs.mmc1.shift := 0, regs.mmc1.shiftCount := 0 }
  else
    { s with regs.mmc1.shift := sh, regs.mmc1.shiftCount := s.regs.mmc1.shiftCount + 1 }

/-! ## MMC3 edge detector and counter -/

/-- The counter's value after one clock: a reload from the latch where the counter is 0 or a
reload was requested, else one less (R721). -/
def mmc3NextCounter (r : Mmc3Regs) : Byte :=
  if r.irqCounter = 0 ∨ r.irqReload = true then r.irqLatch else r.irqCounter - 1

/-- `ClockIrq()` (R721). A clock that decrements leaves `irq_reload` as it was, which is false. -/
def clockIrq (s : State) : State :=
  let c := mmc3NextCounter s.regs.mmc3
  let s1 := { s with regs.mmc3.irqCounter := c, regs.mmc3.irqReload := false }
  if c = 0 ∧ s.regs.mmc3.irqEnable = true then raiseIrq .mmc3 s1 else s1

/-- `EdgeDetect(a)` (R720). -/
def edgeDetect (a : ChrAddr) (s : State) : State :=
  let a12 := a.extractLsb 12 12
  let s1 := if s.regs.mmc3.lastA12 = 0 ∧ a12 = 1 then clockIrq s else s
  { s1 with regs.mmc3.lastA12 := a12 }

/-! ## MMC2 and MMC4 latches -/

/-- `LatchUpdate(a)` (R813). -/
def latchUpdate (a : ChrAddr) (r : Mmc24Regs) : Mmc24Regs :=
  if 0x0FD8 ≤ a ∧ a ≤ 0x0FDF then { r with latch0 := .fd }
  else if 0x0FE8 ≤ a ∧ a ≤ 0x0FEF then { r with latch0 := .fe }
  else if 0x1FD8 ≤ a ∧ a ≤ 0x1FDF then { r with latch1 := .fd }
  else if 0x1FE8 ≤ a ∧ a ≤ 0x1FEF then { r with latch1 := .fe }
  else r

/-! ## MMC5 -/

/-- The unsigned product of the two multiplier inputs (R918, R919). -/
def mmc5Product (r : Mmc5Regs) : BitVec 16 := r.mulA.setWidth 16 * r.mulB.setWidth 16

/-- The scanline compare (R945). -/
def mmc5Scanline (current : Word) (s : State) : State :=
  if s.regs.mmc5.irqEnable = true ∧ current = s.regs.mmc5.irqScanline.setWidth 16 then
    raiseIrq .mmc5 s
  else s

/-! ## VRC scanline counter -/

/-- The effect of an IRQ control write on the unit (R1007, R1059), less the acknowledge. -/
def vrcControl (v : Byte) (q : VrcIrq) : VrcIrq :=
  { q with ctrl := v.extractLsb 2 0
           counter := if v.extractLsb 1 1 = 1 then q.latch else q.counter }

/-- `irq_ctrl[1] <- irq_ctrl[0]` (R1008, R1060), less the acknowledge. -/
def vrcReenable (q : VrcIrq) : VrcIrq :=
  { q with ctrl := (q.ctrl &&& 0b101) ||| ((q.ctrl.extractLsb 0 0).setWidth 3 <<< 1) }

/-- Whether a scanline call makes the counter pass $FF (R1020). -/
def vrcFires (q : VrcIrq) : Bool := q.ctrl.extractLsb 1 1 == 1 && q.counter == 0xFF

/-- The counter after a scanline call (R1020). -/
def vrcCount (q : VrcIrq) : VrcIrq :=
  if q.ctrl.extractLsb 1 1 = 1 then
    { q with counter := if q.counter = 0xFF then q.latch else q.counter + 1 }
  else q

/-- The VRC scanline IRQ counter on VRC6 and VRC6a (R1020). -/
def vrc6Scanline (k : Kind) (s : State) : State :=
  let s1 := { s with regs.vrc6.irq := vrcCount s.regs.vrc6.irq }
  if vrcFires s.regs.vrc6.irq then raiseIrq k s1 else s1

/-- The VRC scanline IRQ counter on VRC7 (R1020). -/
def vrc7Scanline (s : State) : State :=
  let s1 := { s with regs.vrc7.irq := vrcCount s.regs.vrc7.irq }
  if vrcFires s.regs.vrc7.irq then raiseIrq .vrc7 s1 else s1

/-! ## FDS timer -/

/-- `FdsTick()` (R1130). -/
def fdsTick (s : State) : State :=
  let r := s.regs.fds
  if r.timerCtrl.extractLsb 1 1 = 1 ∧ r.masterIo.extractLsb 0 0 = 1 then
    if r.timerCounter = 0 then
      let s1 := raiseIrq .fds s
      if r.timerCtrl.extractLsb 0 0 = 1 then { s1 with regs.fds.timerCounter := r.timerReload }
      else { s1 with regs.fds.timerCtrl := r.timerCtrl &&& 0b01 }
    else { s with regs.fds.timerCounter := r.timerCounter - 1 }
  else s

/-- `n` ticks, one after another (R1131). -/
def fdsTicks : Nat → State → State
  | 0, s => s
  | n + 1, s => fdsTicks n (fdsTick s)

end Sys2Proof.Machine
end

