-- ==== Sys2Proof/Machine/Control.lean ====
section
/-!
DEFINITION. The control transactions (40_facade.md): construction and its failures, the scanline
notification, reset, the interrupt queries, and the host's SRAM operations. They have no row in
spec/opcode_table.json, so they are no constructors of Instr.
-/

namespace Sys2Proof.Machine

open Sys2Proof.Config

/-! ## Construction -/

/-- The factory table (R401). -/
def factory (mapperNumber : Word) : Option Kind :=
  match mapperNumber.toNat with
  | 0 => some .nrom
  | 1 => some .mmc1
  | 2 => some .uxrom
  | 3 => some .cnrom
  | 4 => some .mmc3
  | 5 => some .mmc5
  | 7 => some .axrom
  | 9 => some .mmc2
  | 10 => some .mmc4
  | 11 => some .colorDreams
  | 20 => some .fds
  | 24 => some .vrc6
  | 26 => some .vrc6a
  | 71 => some .camerica
  | 85 => some .vrc7
  | _ => none

/-- The number the factory table gives a kind (R401). -/
def mapperNumberOf : Kind → Word
  | .nrom => 0
  | .mmc1 => 1
  | .uxrom => 2
  | .cnrom => 3
  | .mmc3 => 4
  | .mmc5 => 5
  | .axrom => 7
  | .mmc2 => 9
  | .mmc4 => 10
  | .colorDreams => 11
  | .fds => 20
  | .vrc6 => 24
  | .vrc6a => 26
  | .camerica => 71
  | .vrc7 => 85

/-- `PRG_RAM_SIZE`: the loader's, raised to 32768 on the FDS kind (R403, R1101). -/
def constructedRamSize (k : Kind) (m : Metadata) : Nat :=
  if k = .fds ∧ m.prgRamSize < fdsRamSize then fdsRamSize else m.prgRamSize

/-- Whether construction must allocate a buffer (R403, R404). -/
def mustAllocate (k : Kind) (m : Metadata) : Bool :=
  constructedRamSize k m != 0 || m.chrRom.size == 0 || k == .mmc5

/-- The state in which no cartridge exists (R402, R418); what the collaborators hold, the pending
requests and the events already emitted, is kept. -/
def unloaded (s : State) : State :=
  { State.reset with requests := s.requests, triggers := s.triggers }

/-- The state construction leaves (R403, R190, R1303). -/
def newCartridge (k : Kind) (m : Metadata) (s : State) : State :=
  { unloaded s with
    present := true
    image := { kind := k, mapperNumber := m.mapperNumber,
               prgRom := Memory.ofCells m.prgRom.size m.prgRom.cells,
               chrRom := Memory.ofCells m.chrRom.size m.chrRom.cells,
               hasBattery := m.hasBattery, mirrorDefault := m.mirrorDefault,
               fdsTicks := max 1 m.fdsTicks }
    prgRam := Memory.zeroed (constructedRamSize k m)
    chrRam := Memory.zeroed (if m.chrRom.size = 0 then chrRamSize else 0)
    exram := Memory.zeroed (if k = .mmc5 then exramSize else 0)
    mirrorMode := m.mirrorDefault
    sramDirty := false
    regs := RegFiles.reset
    answer := .cartridge }

/-- A failed construction: no cartridge exists afterwards (R1201). -/
def constructFailed (why : ConstructFailure) (s : State) : Result :=
  .next { unloaded s with answer := .failed why }

/-- `construct` (R403), with the failures in the order of R1201. -/
def construct (m : Metadata) (s : State) : Result :=
  if m.prgRom.size = 0 then constructFailed .invalidImage s
  else match factory m.mapperNumber with
    | none => constructFailed .unsupported s
    | some k =>
      if mustAllocate k m = true ∧ m.allocOk = false then constructFailed .allocFailure s
      else .next (newCartridge k m s)

/-! ## Control transactions of a cartridge -/

/-- The kind's `scanline` hook (R414, R722). -/
def scanlineHook (current : Word) (s : State) : State :=
  match s.image.kind with
  | .mmc5 => mmc5Scanline current s
  | .vrc6 => vrc6Scanline .vrc6 s
  | .vrc6a => vrc6Scanline .vrc6a s
  | .vrc7 => vrc7Scanline s
  | .fds => fdsTicks s.image.fdsTicks s
  | .nrom => s
  | .uxrom => s
  | .camerica => s
  | .cnrom => s
  | .colorDreams => s
  | .axrom => s
  | .mmc1 => s
  | .mmc3 => s
  | .mmc2 => s
  | .mmc4 => s

/-- `notify_scanline(current_scanline)` (R414). -/
def notifyScanline (current : Word) (s : State) : Result := done (scanlineHook current s)

/-- `reset()` (R415, R1300): the active kind's registers and the mirroring mode; R1301 says what
stays. -/
def resetCartridge (s : State) : Result :=
  done { s with regs := s.regs.resetKind s.image.kind, mirrorMode := s.image.mirrorDefault }

/-- `irq_state` (R416). -/
def irqState (s : State) : Result :=
  .next { s with answer := .flag (s.regs.pending s.image.kind) }

/-- `irq_clear` (R417). -/
def irqClear (s : State) : Result := done (ackIrq s.image.kind s)

/-- `shutdown` (R418): the cartridge is destroyed together with its mapper. -/
def shutdown (s : State) : Result := done (unloaded s)

/-- `host_save` (R420); `ioOk` says whether the host's write succeeded. -/
def hostSave (ioOk : Bool) (s : State) : Result :=
  if s.image.hasBattery = false then .next { s with answer := .ok none }
  else if ioOk = false then .next { s with answer := .errIo }
  else .next { s with sramDirty := false, answer := .ok (some s.prgRam.bytes) }

/-- `host_load` (R421); `d` is what the host read, `none` where its read failed. -/
def hostLoad (d : Option (List Byte)) (s : State) : Result :=
  if s.image.hasBattery = false then .next { s with answer := .ok none }
  else match d with
    | none => .next { s with answer := .errIo }
    | some bytes =>
      if bytes.length = s.prgRam.size then
        .next { s with prgRam := Memory.ofBytes bytes, sramDirty := false, answer := .ok none }
      else .next { s with answer := .errIo }

end Sys2Proof.Machine
end

