-- ==== Sys2Proof/WellFormed.lean ====
section
/-!
DEFINITION. When an instruction is one its row decodes: the operands fit the row's pattern,
`(addr & mask) = match` and, on the MMC1 write rows, `(value & data_mask) = data_match`
(30_encoding.md R301). A CHR row's pattern is mask $0000, match $0000: every address fits.
-/

namespace Sys2Proof

/-- `(addr & mask) = match`. -/
def fitsAddr (mask want a : Word) : Bool := a &&& mask == want

/-- `(value & data_mask) = data_match`. -/
def fitsValue (mask want v : Byte) : Bool := v &&& mask == want

/-- The operands fit the row's pattern (R301); the patterns are those of spec/opcode_table.json. -/
def Instr.wellFormed : Instr → Bool
  | .nromPrgRead a => fitsAddr 0x8000 0x8000 a
  | .nromPrgWrite a _ => fitsAddr 0x8000 0x8000 a
  | .nromPrgramRead a => fitsAddr 0xE000 0x6000 a
  | .nromPrgramWrite a _ => fitsAddr 0xE000 0x6000 a
  | .nromChrRead _ => true
  | .nromChrWrite _ _ => true
  | .uxromBankWrite a _ => fitsAddr 0x8000 0x8000 a
  | .uxromPrgReadLow a => fitsAddr 0xC000 0x8000 a
  | .uxromPrgReadHigh a => fitsAddr 0xC000 0xC000 a
  | .uxromPrgramRead a => fitsAddr 0xE000 0x6000 a
  | .uxromPrgramWrite a _ => fitsAddr 0xE000 0x6000 a
  | .uxromChrRead _ => true
  | .uxromChrWrite _ _ => true
  | .camericaBankWrite a _ => fitsAddr 0x8000 0x8000 a
  | .camericaPrgReadLow a => fitsAddr 0xC000 0x8000 a
  | .camericaPrgReadHigh a => fitsAddr 0xC000 0xC000 a
  | .camericaPrgramRead a => fitsAddr 0xE000 0x6000 a
  | .camericaPrgramWrite a _ => fitsAddr 0xE000 0x6000 a
  | .camericaChrRead _ => true
  | .camericaChrWrite _ _ => true
  | .cnromChrBankWrite a _ => fitsAddr 0x8000 0x8000 a
  | .cnromPrgRead a => fitsAddr 0x8000 0x8000 a
  | .cnromChrRead _ => true
  | .cnromChrWrite _ _ => true
  | .cnromPrgramRead a => fitsAddr 0xE000 0x6000 a
  | .cnromPrgramWrite a _ => fitsAddr 0xE000 0x6000 a
  | .colorDreamsBankWrite a _ => fitsAddr 0x8000 0x8000 a
  | .colorDreamsPrgRead a => fitsAddr 0x8000 0x8000 a
  | .colorDreamsChrRead _ => true
  | .colorDreamsChrWrite _ _ => true
  | .colorDreamsPrgramRead a => fitsAddr 0xE000 0x6000 a
  | .colorDreamsPrgramWrite a _ => fitsAddr 0xE000 0x6000 a
  | .axromBankWrite a _ => fitsAddr 0x8000 0x8000 a
  | .axromPrgRead a => fitsAddr 0x8000 0x8000 a
  | .axromPrgramRead a => fitsAddr 0xE000 0x6000 a
  | .axromPrgramWrite a _ => fitsAddr 0xE000 0x6000 a
  | .axromChrRead _ => true
  | .axromChrWrite _ _ => true
  | .mmc1ResetWrite a v => fitsAddr 0x8000 0x8000 a && fitsValue 0x80 0x80 v
  | .mmc1WriteControl a v => fitsAddr 0xE000 0x8000 a && fitsValue 0x80 0x00 v
  | .mmc1WriteChr0 a v => fitsAddr 0xE000 0xA000 a && fitsValue 0x80 0x00 v
  | .mmc1WriteChr1 a v => fitsAddr 0xE000 0xC000 a && fitsValue 0x80 0x00 v
  | .mmc1WritePrg a v => fitsAddr 0xE000 0xE000 a && fitsValue 0x80 0x00 v
  | .mmc1PrgReadLow a => fitsAddr 0xC000 0x8000 a
  | .mmc1PrgReadHigh a => fitsAddr 0xC000 0xC000 a
  | .mmc1ChrRead _ => true
  | .mmc1ChrWrite _ _ => true
  | .mmc1PrgramRead a => fitsAddr 0xE000 0x6000 a
  | .mmc1PrgramWrite a _ => fitsAddr 0xE000 0x6000 a
  | .mmc3BankSelect a _ => fitsAddr 0xE001 0x8000 a
  | .mmc3BankData a _ => fitsAddr 0xE001 0x8001 a
  | .mmc3Mirroring a _ => fitsAddr 0xE001 0xA000 a
  | .mmc3PrgRamProtect a _ => fitsAddr 0xE001 0xA001 a
  | .mmc3IrqLatch a _ => fitsAddr 0xE001 0xC000 a
  | .mmc3IrqReload a _ => fitsAddr 0xE001 0xC001 a
  | .mmc3IrqDisable a _ => fitsAddr 0xE001 0xE000 a
  | .mmc3IrqEnable a _ => fitsAddr 0xE001 0xE001 a
  | .mmc3PrgRead a => fitsAddr 0x8000 0x8000 a
  | .mmc3PrgramRead a => fitsAddr 0xE000 0x6000 a
  | .mmc3PrgramWrite a _ => fitsAddr 0xE000 0x6000 a
  | .mmc3ChrRead _ => true
  | .mmc3ChrWrite _ _ => true
  | .mmc2PrgBank a _ => fitsAddr 0xF000 0xA000 a
  | .mmc2ChrFd0 a _ => fitsAddr 0xF000 0xB000 a
  | .mmc2ChrFe0 a _ => fitsAddr 0xF000 0xC000 a
  | .mmc2ChrFd1 a _ => fitsAddr 0xF000 0xD000 a
  | .mmc2ChrFe1 a _ => fitsAddr 0xF000 0xE000 a
  | .mmc2Mirroring a _ => fitsAddr 0xF000 0xF000 a
  | .mmc2IgnoredWrite a _ => fitsAddr 0xE000 0x8000 a
  | .mmc2PrgRead a => fitsAddr 0x8000 0x8000 a
  | .mmc2ChrRead _ => true
  | .mmc2ChrWrite _ _ => true
  | .mmc2PrgramRead a => fitsAddr 0xE000 0x6000 a
  | .mmc2PrgramWrite a _ => fitsAddr 0xE000 0x6000 a
  | .mmc4PrgBank a _ => fitsAddr 0xF000 0xA000 a
  | .mmc4ChrFd0 a _ => fitsAddr 0xF000 0xB000 a
  | .mmc4ChrFe0 a _ => fitsAddr 0xF000 0xC000 a
  | .mmc4ChrFd1 a _ => fitsAddr 0xF000 0xD000 a
  | .mmc4ChrFe1 a _ => fitsAddr 0xF000 0xE000 a
  | .mmc4Mirroring a _ => fitsAddr 0xF000 0xF000 a
  | .mmc4IgnoredWrite a _ => fitsAddr 0xE000 0x8000 a
  | .mmc4PrgRead a => fitsAddr 0x8000 0x8000 a
  | .mmc4ChrRead _ => true
  | .mmc4ChrWrite _ _ => true
  | .mmc4PrgramRead a => fitsAddr 0xE000 0x6000 a
  | .mmc4PrgramWrite a _ => fitsAddr 0xE000 0x6000 a
  | .mmc5AudioWrite a _ => fitsAddr 0xFFF0 0x5000 a
  | .mmc5AudioWriteHi a _ => fitsAddr 0xFFFC 0x5010 a
  | .mmc5AudioWriteTop a _ => fitsAddr 0xFFFE 0x5014 a
  | .mmc5PrgMode a _ => fitsAddr 0xFFFF 0x5100 a
  | .mmc5ChrMode a _ => fitsAddr 0xFFFF 0x5101 a
  | .mmc5RamProtect1 a _ => fitsAddr 0xFFFF 0x5102 a
  | .mmc5RamProtect2 a _ => fitsAddr 0xFFFF 0x5103 a
  | .mmc5ExramMode a _ => fitsAddr 0xFFFF 0x5104 a
  | .mmc5NtMap a _ => fitsAddr 0xFFFF 0x5105 a
  | .mmc5FillTile a _ => fitsAddr 0xFFFF 0x5106 a
  | .mmc5FillAttr a _ => fitsAddr 0xFFFF 0x5107 a
  | .mmc5PrgRamBank a _ => fitsAddr 0xFFFF 0x5113 a
  | .mmc5ChrUpper a _ => fitsAddr 0xFFFF 0x5130 a
  | .mmc5IrqTarget a _ => fitsAddr 0xFFFF 0x5203 a
  | .mmc5IrqEnable a _ => fitsAddr 0xFFFF 0x5204 a
  | .mmc5MulA a _ => fitsAddr 0xFFFF 0x5205 a
  | .mmc5MulB a _ => fitsAddr 0xFFFF 0x5206 a
  | .mmc5PrgBank a _ => fitsAddr 0xFFFC 0x5114 a
  | .mmc5ChrBank a _ => fitsAddr 0xFFF8 0x5120 a
  | .mmc5ChrBankB a _ => fitsAddr 0xFFFC 0x5128 a
  | .mmc5IrqStatus a => fitsAddr 0xFFFF 0x5204 a
  | .mmc5MulLo a => fitsAddr 0xFFFF 0x5205 a
  | .mmc5MulHi a => fitsAddr 0xFFFF 0x5206 a
  | .mmc5ExramRead a => fitsAddr 0xFC00 0x5C00 a
  | .mmc5ExramWrite a _ => fitsAddr 0xFC00 0x5C00 a
  | .mmc5PrgramRead a => fitsAddr 0xE000 0x6000 a
  | .mmc5PrgRead a => fitsAddr 0x8000 0x8000 a
  | .mmc5PrgramWrite a _ => fitsAddr 0xE000 0x6000 a
  | .mmc5PrgWrite a _ => fitsAddr 0x8000 0x8000 a
  | .mmc5ChrRead _ => true
  | .mmc5ChrWrite _ _ => true
  | .vrc6Prg16 a _ => fitsAddr 0xF000 0x8000 a
  | .vrc6Audio9 a _ => fitsAddr 0xF000 0x9000 a
  | .vrc6AudioA0 a _ => fitsAddr 0xF003 0xA000 a
  | .vrc6AudioA1 a _ => fitsAddr 0xF003 0xA001 a
  | .vrc6AudioA2 a _ => fitsAddr 0xF003 0xA002 a
  | .vrc6AudioB0 a _ => fitsAddr 0xF003 0xB000 a
  | .vrc6AudioB1 a _ => fitsAddr 0xF003 0xB001 a
  | .vrc6AudioB2 a _ => fitsAddr 0xF003 0xB002 a
  | .vrc6Ctrl a _ => fitsAddr 0xF003 0xB003 a
  | .vrc6Prg8 a _ => fitsAddr 0xF000 0xC000 a
  | .vrc6ChrD a _ => fitsAddr 0xF000 0xD000 a
  | .vrc6ChrE a _ => fitsAddr 0xF000 0xE000 a
  | .vrc6IrqLatch a _ => fitsAddr 0xF003 0xF000 a
  | .vrc6IrqControl a _ => fitsAddr 0xF003 0xF001 a
  | .vrc6IrqAck a _ => fitsAddr 0xF003 0xF002 a
  | .vrc6IgnoredA003 a _ => fitsAddr 0xF003 0xA003 a
  | .vrc6IgnoredF003 a _ => fitsAddr 0xF003 0xF003 a
  | .vrc6PrgRead a => fitsAddr 0x8000 0x8000 a
  | .vrc6PrgramRead a => fitsAddr 0xE000 0x6000 a
  | .vrc6PrgramWrite a _ => fitsAddr 0xE000 0x6000 a
  | .vrc6ChrRead _ => true
  | .vrc6ChrWrite _ _ => true
  | .vrc6aPrg16 a _ => fitsAddr 0xF000 0x8000 a
  | .vrc6aAudio9 a _ => fitsAddr 0xF000 0x9000 a
  | .vrc6aAudioA0 a _ => fitsAddr 0xF003 0xA000 a
  | .vrc6aAudioA1 a _ => fitsAddr 0xF003 0xA002 a
  | .vrc6aAudioA2 a _ => fitsAddr 0xF003 0xA001 a
  | .vrc6aAudioB0 a _ => fitsAddr 0xF003 0xB000 a
  | .vrc6aAudioB1 a _ => fitsAddr 0xF003 0xB002 a
  | .vrc6aAudioB2 a _ => fitsAddr 0xF003 0xB001 a
  | .vrc6aCtrl a _ => fitsAddr 0xF003 0xB003 a
  | .vrc6aPrg8 a _ => fitsAddr 0xF000 0xC000 a
  | .vrc6aChrD a _ => fitsAddr 0xF000 0xD000 a
  | .vrc6aChrE a _ => fitsAddr 0xF000 0xE000 a
  | .vrc6aIrqLatch a _ => fitsAddr 0xF003 0xF000 a
  | .vrc6aIrqControl a _ => fitsAddr 0xF003 0xF002 a
  | .vrc6aIrqAck a _ => fitsAddr 0xF003 0xF001 a
  | .vrc6aIgnoredA003 a _ => fitsAddr 0xF003 0xA003 a
  | .vrc6aIgnoredF003 a _ => fitsAddr 0xF003 0xF003 a
  | .vrc6aPrgRead a => fitsAddr 0x8000 0x8000 a
  | .vrc6aPrgramRead a => fitsAddr 0xE000 0x6000 a
  | .vrc6aPrgramWrite a _ => fitsAddr 0xE000 0x6000 a
  | .vrc6aChrRead _ => true
  | .vrc6aChrWrite _ _ => true
  | .vrc7Prg0 a _ => fitsAddr 0xF018 0x8000 a
  | .vrc7Prg1 a _ => fitsAddr 0xF008 0x8008 a
  | .vrc7Prg1A4 a _ => fitsAddr 0xF018 0x8010 a
  | .vrc7Prg2 a _ => fitsAddr 0xF018 0x9000 a
  | .vrc7IgnoredWrite a _ => fitsAddr 0xF018 0x9008 a
  | .vrc7AudioIndex a _ => fitsAddr 0xF030 0x9010 a
  | .vrc7AudioData a _ => fitsAddr 0xF030 0x9030 a
  | .vrc7ChrALo a _ => fitsAddr 0xF018 0xA000 a
  | .vrc7ChrAHi a _ => fitsAddr 0xF008 0xA008 a
  | .vrc7ChrAHiA4 a _ => fitsAddr 0xF018 0xA010 a
  | .vrc7ChrBLo a _ => fitsAddr 0xF018 0xB000 a
  | .vrc7ChrBHi a _ => fitsAddr 0xF008 0xB008 a
  | .vrc7ChrBHiA4 a _ => fitsAddr 0xF018 0xB010 a
  | .vrc7ChrCLo a _ => fitsAddr 0xF018 0xC000 a
  | .vrc7ChrCHi a _ => fitsAddr 0xF008 0xC008 a
  | .vrc7ChrCHiA4 a _ => fitsAddr 0xF018 0xC010 a
  | .vrc7ChrDLo a _ => fitsAddr 0xF018 0xD000 a
  | .vrc7ChrDHi a _ => fitsAddr 0xF008 0xD008 a
  | .vrc7ChrDHiA4 a _ => fitsAddr 0xF018 0xD010 a
  | .vrc7Ctrl a _ => fitsAddr 0xF018 0xE000 a
  | .vrc7IrqLatch a _ => fitsAddr 0xF008 0xE008 a
  | .vrc7IrqLatchA4 a _ => fitsAddr 0xF018 0xE010 a
  | .vrc7IrqControl a _ => fitsAddr 0xF018 0xF000 a
  | .vrc7IrqAck a _ => fitsAddr 0xF008 0xF008 a
  | .vrc7IrqAckA4 a _ => fitsAddr 0xF018 0xF010 a
  | .vrc7PrgRead a => fitsAddr 0x8000 0x8000 a
  | .vrc7PrgramRead a => fitsAddr 0xE000 0x6000 a
  | .vrc7PrgramWrite a _ => fitsAddr 0xE000 0x6000 a
  | .vrc7ChrRead _ => true
  | .vrc7ChrWrite _ _ => true
  | .fdsRamRead6 a => fitsAddr 0xE000 0x6000 a
  | .fdsRamRead8 a => fitsAddr 0xC000 0x8000 a
  | .fdsRamReadC a => fitsAddr 0xE000 0xC000 a
  | .fdsRamWrite6 a _ => fitsAddr 0xE000 0x6000 a
  | .fdsRamWrite8 a _ => fitsAddr 0xC000 0x8000 a
  | .fdsRamWriteC a _ => fitsAddr 0xE000 0xC000 a
  | .fdsBiosRead a => fitsAddr 0xE000 0xE000 a
  | .fdsBiosWrite a _ => fitsAddr 0xE000 0xE000 a
  | .fdsTimerReloadLo a _ => fitsAddr 0xFFFF 0x4020 a
  | .fdsTimerReloadHi a _ => fitsAddr 0xFFFF 0x4021 a
  | .fdsTimerCtrl a _ => fitsAddr 0xFFFF 0x4022 a
  | .fdsMasterIo a _ => fitsAddr 0xFFFF 0x4023 a
  | .fdsWriteData a _ => fitsAddr 0xFFFF 0x4024 a
  | .fdsControl a _ => fitsAddr 0xFFFF 0x4025 a
  | .fdsExtOut a _ => fitsAddr 0xFFFF 0x4026 a
  | .fdsDiskStatus a => fitsAddr 0xFFFF 0x4030 a
  | .fdsReadData a => fitsAddr 0xFFFF 0x4031 a
  | .fdsDriveStatus a => fitsAddr 0xFFFF 0x4032 a
  | .fdsExtIn a => fitsAddr 0xFFFF 0x4033 a
  | .fdsWaveWrite a _ => fitsAddr 0xFFC0 0x4040 a
  | .fdsWaveRead a => fitsAddr 0xFFC0 0x4040 a
  | .fdsAudioWrite a _ => fitsAddr 0xFFF8 0x4080 a
  | .fdsAudioWriteHi a _ => fitsAddr 0xFFFE 0x4088 a
  | .fdsAudioWriteTop a _ => fitsAddr 0xFFFF 0x408A a
  | .fdsChrRead _ => true
  | .fdsChrWrite _ _ => true

end Sys2Proof
end

