-- ==== Sys2Proof/Decode.lean ====
section
/-!
DEFINITION. Decoding (30_encoding.md R301): the transaction decoder `decode`, which the machine
uses, total and rejecting by name; the encoder `Instr.target` and `encode` beside it; and the
byte form of a transaction, which the spec does not have and the host's word interface needs
(log entry 11): address low byte, address high byte, value byte, tag byte. The tag names kind
and format; tag 0 names neither, as in a word of spec/opcode_table.json, and is read as the row
that fits it best.
-/

namespace Sys2Proof

/-- Why a transaction is no instruction. -/
inductive Reject where
  /-- A CPU address below $4020, outside the contract (R405). -/
  | belowContract
  /-- No row of the active kind and format fits (R222, R301). -/
  | unmapped
  /-- Fewer than four bytes of a transaction's byte form. -/
  | short
  /-- A tag byte that names no kind and format. -/
  | badTag
  deriving DecidableEq, Repr

/-- One CPU row of the decode table: `match` is `want`. -/
structure Row where
  mask  : Word
  want  : Word
  dmask : Byte
  dwant : Byte
  build : Word → Byte → Instr

/-- The row decodes the address and value (R301). -/
def Row.accepts (r : Row) (a : Word) (v : Byte) : Bool :=
  a &&& r.mask == r.want && v &&& r.dmask == r.dwant

/-- A `cpu_read` row. -/
def readRow (mask want : Word) (build : Word → Instr) : Row :=
  { mask := mask, want := want, dmask := 0, dwant := 0, build := fun a _ => build a }

/-- A `cpu_write` row without a data pattern. -/
def writeRow (mask want : Word) (build : Word → Byte → Instr) : Row :=
  { mask := mask, want := want, dmask := 0, dwant := 0, build := build }

/-- A `cpu_write` row with a data pattern (MMC1, R303). -/
def serialRow (mask want : Word) (dmask dwant : Byte) (build : Word → Byte → Instr) : Row :=
  { mask := mask, want := want, dmask := dmask, dwant := dwant, build := build }

/-- The `cpu_read` rows of a kind. -/
def cpuReadRows : Kind → List Row
  | .nrom =>
    [readRow 0x8000 0x8000 .nromPrgRead,
     readRow 0xE000 0x6000 .nromPrgramRead]
  | .uxrom =>
    [readRow 0xC000 0x8000 .uxromPrgReadLow,
     readRow 0xC000 0xC000 .uxromPrgReadHigh,
     readRow 0xE000 0x6000 .uxromPrgramRead]
  | .camerica =>
    [readRow 0xC000 0x8000 .camericaPrgReadLow,
     readRow 0xC000 0xC000 .camericaPrgReadHigh,
     readRow 0xE000 0x6000 .camericaPrgramRead]
  | .cnrom =>
    [readRow 0x8000 0x8000 .cnromPrgRead,
     readRow 0xE000 0x6000 .cnromPrgramRead]
  | .colorDreams =>
    [readRow 0x8000 0x8000 .colorDreamsPrgRead,
     readRow 0xE000 0x6000 .colorDreamsPrgramRead]
  | .axrom =>
    [readRow 0x8000 0x8000 .axromPrgRead,
     readRow 0xE000 0x6000 .axromPrgramRead]
  | .mmc1 =>
    [readRow 0xC000 0x8000 .mmc1PrgReadLow,
     readRow 0xC000 0xC000 .mmc1PrgReadHigh,
     readRow 0xE000 0x6000 .mmc1PrgramRead]
  | .mmc3 =>
    [readRow 0x8000 0x8000 .mmc3PrgRead,
     readRow 0xE000 0x6000 .mmc3PrgramRead]
  | .mmc2 =>
    [readRow 0x8000 0x8000 .mmc2PrgRead,
     readRow 0xE000 0x6000 .mmc2PrgramRead]
  | .mmc4 =>
    [readRow 0x8000 0x8000 .mmc4PrgRead,
     readRow 0xE000 0x6000 .mmc4PrgramRead]
  | .mmc5 =>
    [readRow 0xFFFF 0x5204 .mmc5IrqStatus,
     readRow 0xFFFF 0x5205 .mmc5MulLo,
     readRow 0xFFFF 0x5206 .mmc5MulHi,
     readRow 0xFC00 0x5C00 .mmc5ExramRead,
     readRow 0xE000 0x6000 .mmc5PrgramRead,
     readRow 0x8000 0x8000 .mmc5PrgRead]
  | .vrc6 =>
    [readRow 0x8000 0x8000 .vrc6PrgRead,
     readRow 0xE000 0x6000 .vrc6PrgramRead]
  | .vrc6a =>
    [readRow 0x8000 0x8000 .vrc6aPrgRead,
     readRow 0xE000 0x6000 .vrc6aPrgramRead]
  | .vrc7 =>
    [readRow 0x8000 0x8000 .vrc7PrgRead,
     readRow 0xE000 0x6000 .vrc7PrgramRead]
  | .fds =>
    [readRow 0xE000 0x6000 .fdsRamRead6,
     readRow 0xC000 0x8000 .fdsRamRead8,
     readRow 0xE000 0xC000 .fdsRamReadC,
     readRow 0xE000 0xE000 .fdsBiosRead,
     readRow 0xFFFF 0x4030 .fdsDiskStatus,
     readRow 0xFFFF 0x4031 .fdsReadData,
     readRow 0xFFFF 0x4032 .fdsDriveStatus,
     readRow 0xFFFF 0x4033 .fdsExtIn,
     readRow 0xFFC0 0x4040 .fdsWaveRead]

/-- The `cpu_write` rows of a kind. -/
def cpuWriteRows : Kind → List Row
  | .nrom =>
    [writeRow 0x8000 0x8000 .nromPrgWrite,
     writeRow 0xE000 0x6000 .nromPrgramWrite]
  | .uxrom =>
    [writeRow 0x8000 0x8000 .uxromBankWrite,
     writeRow 0xE000 0x6000 .uxromPrgramWrite]
  | .camerica =>
    [writeRow 0x8000 0x8000 .camericaBankWrite,
     writeRow 0xE000 0x6000 .camericaPrgramWrite]
  | .cnrom =>
    [writeRow 0x8000 0x8000 .cnromChrBankWrite,
     writeRow 0xE000 0x6000 .cnromPrgramWrite]
  | .colorDreams =>
    [writeRow 0x8000 0x8000 .colorDreamsBankWrite,
     writeRow 0xE000 0x6000 .colorDreamsPrgramWrite]
  | .axrom =>
    [writeRow 0x8000 0x8000 .axromBankWrite,
     writeRow 0xE000 0x6000 .axromPrgramWrite]
  | .mmc1 =>
    [serialRow 0x8000 0x8000 0x80 0x80 .mmc1ResetWrite,
     serialRow 0xE000 0x8000 0x80 0x00 .mmc1WriteControl,
     serialRow 0xE000 0xA000 0x80 0x00 .mmc1WriteChr0,
     serialRow 0xE000 0xC000 0x80 0x00 .mmc1WriteChr1,
     serialRow 0xE000 0xE000 0x80 0x00 .mmc1WritePrg,
     writeRow 0xE000 0x6000 .mmc1PrgramWrite]
  | .mmc3 =>
    [writeRow 0xE001 0x8000 .mmc3BankSelect,
     writeRow 0xE001 0x8001 .mmc3BankData,
     writeRow 0xE001 0xA000 .mmc3Mirroring,
     writeRow 0xE001 0xA001 .mmc3PrgRamProtect,
     writeRow 0xE001 0xC000 .mmc3IrqLatch,
     writeRow 0xE001 0xC001 .mmc3IrqReload,
     writeRow 0xE001 0xE000 .mmc3IrqDisable,
     writeRow 0xE001 0xE001 .mmc3IrqEnable,
     writeRow 0xE000 0x6000 .mmc3PrgramWrite]
  | .mmc2 =>
    [writeRow 0xF000 0xA000 .mmc2PrgBank,
     writeRow 0xF000 0xB000 .mmc2ChrFd0,
     writeRow 0xF000 0xC000 .mmc2ChrFe0,
     writeRow 0xF000 0xD000 .mmc2ChrFd1,
     writeRow 0xF000 0xE000 .mmc2ChrFe1,
     writeRow 0xF000 0xF000 .mmc2Mirroring,
     writeRow 0xE000 0x8000 .mmc2IgnoredWrite,
     writeRow 0xE000 0x6000 .mmc2PrgramWrite]
  | .mmc4 =>
    [writeRow 0xF000 0xA000 .mmc4PrgBank,
     writeRow 0xF000 0xB000 .mmc4ChrFd0,
     writeRow 0xF000 0xC000 .mmc4ChrFe0,
     writeRow 0xF000 0xD000 .mmc4ChrFd1,
     writeRow 0xF000 0xE000 .mmc4ChrFe1,
     writeRow 0xF000 0xF000 .mmc4Mirroring,
     writeRow 0xE000 0x8000 .mmc4IgnoredWrite,
     writeRow 0xE000 0x6000 .mmc4PrgramWrite]
  | .mmc5 =>
    [writeRow 0xFFF0 0x5000 .mmc5AudioWrite,
     writeRow 0xFFFC 0x5010 .mmc5AudioWriteHi,
     writeRow 0xFFFE 0x5014 .mmc5AudioWriteTop,
     writeRow 0xFFFF 0x5100 .mmc5PrgMode,
     writeRow 0xFFFF 0x5101 .mmc5ChrMode,
     writeRow 0xFFFF 0x5102 .mmc5RamProtect1,
     writeRow 0xFFFF 0x5103 .mmc5RamProtect2,
     writeRow 0xFFFF 0x5104 .mmc5ExramMode,
     writeRow 0xFFFF 0x5105 .mmc5NtMap] ++
    [writeRow 0xFFFF 0x5106 .mmc5FillTile,
     writeRow 0xFFFF 0x5107 .mmc5FillAttr,
     writeRow 0xFFFF 0x5113 .mmc5PrgRamBank,
     writeRow 0xFFFF 0x5130 .mmc5ChrUpper,
     writeRow 0xFFFF 0x5203 .mmc5IrqTarget,
     writeRow 0xFFFF 0x5204 .mmc5IrqEnable,
     writeRow 0xFFFF 0x5205 .mmc5MulA,
     writeRow 0xFFFF 0x5206 .mmc5MulB,
     writeRow 0xFFFC 0x5114 .mmc5PrgBank] ++
    [writeRow 0xFFF8 0x5120 .mmc5ChrBank,
     writeRow 0xFFFC 0x5128 .mmc5ChrBankB,
     writeRow 0xFC00 0x5C00 .mmc5ExramWrite,
     writeRow 0xE000 0x6000 .mmc5PrgramWrite,
     writeRow 0x8000 0x8000 .mmc5PrgWrite]
  | .vrc6 =>
    [writeRow 0xF000 0x8000 .vrc6Prg16,
     writeRow 0xF000 0x9000 .vrc6Audio9,
     writeRow 0xF003 0xA000 .vrc6AudioA0,
     writeRow 0xF003 0xA001 .vrc6AudioA1,
     writeRow 0xF003 0xA002 .vrc6AudioA2,
     writeRow 0xF003 0xB000 .vrc6AudioB0,
     writeRow 0xF003 0xB001 .vrc6AudioB1,
     writeRow 0xF003 0xB002 .vrc6AudioB2,
     writeRow 0xF003 0xB003 .vrc6Ctrl] ++
    [writeRow 0xF000 0xC000 .vrc6Prg8,
     writeRow 0xF000 0xD000 .vrc6ChrD,
     writeRow 0xF000 0xE000 .vrc6ChrE,
     writeRow 0xF003 0xF000 .vrc6IrqLatch,
     writeRow 0xF003 0xF001 .vrc6IrqControl,
     writeRow 0xF003 0xF002 .vrc6IrqAck,
     writeRow 0xF003 0xA003 .vrc6IgnoredA003,
     writeRow 0xF003 0xF003 .vrc6IgnoredF003,
     writeRow 0xE000 0x6000 .vrc6PrgramWrite]
  | .vrc6a =>
    [writeRow 0xF000 0x8000 .vrc6aPrg16,
     writeRow 0xF000 0x9000 .vrc6aAudio9,
     writeRow 0xF003 0xA000 .vrc6aAudioA0,
     writeRow 0xF003 0xA002 .vrc6aAudioA1,
     writeRow 0xF003 0xA001 .vrc6aAudioA2,
     writeRow 0xF003 0xB000 .vrc6aAudioB0,
     writeRow 0xF003 0xB002 .vrc6aAudioB1,
     writeRow 0xF003 0xB001 .vrc6aAudioB2,
     writeRow 0xF003 0xB003 .vrc6aCtrl] ++
    [writeRow 0xF000 0xC000 .vrc6aPrg8,
     writeRow 0xF000 0xD000 .vrc6aChrD,
     writeRow 0xF000 0xE000 .vrc6aChrE,
     writeRow 0xF003 0xF000 .vrc6aIrqLatch,
     writeRow 0xF003 0xF002 .vrc6aIrqControl,
     writeRow 0xF003 0xF001 .vrc6aIrqAck,
     writeRow 0xF003 0xA003 .vrc6aIgnoredA003,
     writeRow 0xF003 0xF003 .vrc6aIgnoredF003,
     writeRow 0xE000 0x6000 .vrc6aPrgramWrite]
  | .vrc7 =>
    [writeRow 0xF018 0x8000 .vrc7Prg0,
     writeRow 0xF008 0x8008 .vrc7Prg1,
     writeRow 0xF018 0x8010 .vrc7Prg1A4,
     writeRow 0xF018 0x9000 .vrc7Prg2,
     writeRow 0xF018 0x9008 .vrc7IgnoredWrite,
     writeRow 0xF030 0x9010 .vrc7AudioIndex,
     writeRow 0xF030 0x9030 .vrc7AudioData,
     writeRow 0xF018 0xA000 .vrc7ChrALo,
     writeRow 0xF008 0xA008 .vrc7ChrAHi] ++
    [writeRow 0xF018 0xA010 .vrc7ChrAHiA4,
     writeRow 0xF018 0xB000 .vrc7ChrBLo,
     writeRow 0xF008 0xB008 .vrc7ChrBHi,
     writeRow 0xF018 0xB010 .vrc7ChrBHiA4,
     writeRow 0xF018 0xC000 .vrc7ChrCLo,
     writeRow 0xF008 0xC008 .vrc7ChrCHi,
     writeRow 0xF018 0xC010 .vrc7ChrCHiA4,
     writeRow 0xF018 0xD000 .vrc7ChrDLo,
     writeRow 0xF008 0xD008 .vrc7ChrDHi] ++
    [writeRow 0xF018 0xD010 .vrc7ChrDHiA4,
     writeRow 0xF018 0xE000 .vrc7Ctrl,
     writeRow 0xF008 0xE008 .vrc7IrqLatch,
     writeRow 0xF018 0xE010 .vrc7IrqLatchA4,
     writeRow 0xF018 0xF000 .vrc7IrqControl,
     writeRow 0xF008 0xF008 .vrc7IrqAck,
     writeRow 0xF018 0xF010 .vrc7IrqAckA4,
     writeRow 0xE000 0x6000 .vrc7PrgramWrite]
  | .fds =>
    [writeRow 0xE000 0x6000 .fdsRamWrite6,
     writeRow 0xC000 0x8000 .fdsRamWrite8,
     writeRow 0xE000 0xC000 .fdsRamWriteC,
     writeRow 0xE000 0xE000 .fdsBiosWrite,
     writeRow 0xFFFF 0x4020 .fdsTimerReloadLo,
     writeRow 0xFFFF 0x4021 .fdsTimerReloadHi,
     writeRow 0xFFFF 0x4022 .fdsTimerCtrl,
     writeRow 0xFFFF 0x4023 .fdsMasterIo,
     writeRow 0xFFFF 0x4024 .fdsWriteData] ++
    [writeRow 0xFFFF 0x4025 .fdsControl,
     writeRow 0xFFFF 0x4026 .fdsExtOut,
     writeRow 0xFFC0 0x4040 .fdsWaveWrite,
     writeRow 0xFFF8 0x4080 .fdsAudioWrite,
     writeRow 0xFFFE 0x4088 .fdsAudioWriteHi,
     writeRow 0xFFFF 0x408A .fdsAudioWriteTop]

/-- The `chr_read` row of a kind: every kind decodes all of $0000–$1FFF (R412). -/
def chrReadInstr : Kind → ChrAddr → Instr
  | .nrom => .nromChrRead
  | .uxrom => .uxromChrRead
  | .camerica => .camericaChrRead
  | .cnrom => .cnromChrRead
  | .colorDreams => .colorDreamsChrRead
  | .axrom => .axromChrRead
  | .mmc1 => .mmc1ChrRead
  | .mmc3 => .mmc3ChrRead
  | .mmc2 => .mmc2ChrRead
  | .mmc4 => .mmc4ChrRead
  | .mmc5 => .mmc5ChrRead
  | .vrc6 => .vrc6ChrRead
  | .vrc6a => .vrc6aChrRead
  | .vrc7 => .vrc7ChrRead
  | .fds => .fdsChrRead

/-- The `chr_write` row of a kind: every kind decodes all of $0000–$1FFF (R412). -/
def chrWriteInstr : Kind → ChrAddr → Byte → Instr
  | .nrom => .nromChrWrite
  | .uxrom => .uxromChrWrite
  | .camerica => .camericaChrWrite
  | .cnrom => .cnromChrWrite
  | .colorDreams => .colorDreamsChrWrite
  | .axrom => .axromChrWrite
  | .mmc1 => .mmc1ChrWrite
  | .mmc3 => .mmc3ChrWrite
  | .mmc2 => .mmc2ChrWrite
  | .mmc4 => .mmc4ChrWrite
  | .mmc5 => .mmc5ChrWrite
  | .vrc6 => .vrc6ChrWrite
  | .vrc6a => .vrc6aChrWrite
  | .vrc7 => .vrc7ChrWrite
  | .fds => .fdsChrWrite

/-- The unique row of a list that decodes the address and value (R301 (2), (3)). -/
def findRow (rows : List Row) (a : Word) (v : Byte) : Except Reject Instr :=
  match rows.find? (fun r => r.accepts a v) with
  | some r => .ok (r.build a v)
  | none => .error .unmapped

/-- The decoder (R301, R410 to R413): the active kind and a transaction give the instruction, or
the reason there is none. A PPU address is first reduced to bits 12:0 (R405). -/
def decode (k : Kind) : Bus → Except Reject Instr
  | .cpuRead a => if a < Config.cpuBase then .error .belowContract else findRow (cpuReadRows k) a 0
  | .cpuWrite a v =>
    if a < Config.cpuBase then .error .belowContract else findRow (cpuWriteRows k) a v
  | .chrRead a => .ok (chrReadInstr k (a.setWidth 13))
  | .chrWrite a v => .ok (chrWriteInstr k (a.setWidth 13) v)

/-! ## Encoding -/

/-- The kind and the transaction of an instruction: what `decode` reads it from. -/
def Instr.target : Instr → Kind × Bus
  | .nromPrgRead a => (.nrom, .cpuRead a)
  | .nromPrgWrite a v => (.nrom, .cpuWrite a v)
  | .nromPrgramRead a => (.nrom, .cpuRead a)
  | .nromPrgramWrite a v => (.nrom, .cpuWrite a v)
  | .nromChrRead a => (.nrom, .chrRead (a.setWidth 16))
  | .nromChrWrite a v => (.nrom, .chrWrite (a.setWidth 16) v)
  | .uxromBankWrite a v => (.uxrom, .cpuWrite a v)
  | .uxromPrgReadLow a => (.uxrom, .cpuRead a)
  | .uxromPrgReadHigh a => (.uxrom, .cpuRead a)
  | .uxromPrgramRead a => (.uxrom, .cpuRead a)
  | .uxromPrgramWrite a v => (.uxrom, .cpuWrite a v)
  | .uxromChrRead a => (.uxrom, .chrRead (a.setWidth 16))
  | .uxromChrWrite a v => (.uxrom, .chrWrite (a.setWidth 16) v)
  | .camericaBankWrite a v => (.camerica, .cpuWrite a v)
  | .camericaPrgReadLow a => (.camerica, .cpuRead a)
  | .camericaPrgReadHigh a => (.camerica, .cpuRead a)
  | .camericaPrgramRead a => (.camerica, .cpuRead a)
  | .camericaPrgramWrite a v => (.camerica, .cpuWrite a v)
  | .camericaChrRead a => (.camerica, .chrRead (a.setWidth 16))
  | .camericaChrWrite a v => (.camerica, .chrWrite (a.setWidth 16) v)
  | .cnromChrBankWrite a v => (.cnrom, .cpuWrite a v)
  | .cnromPrgRead a => (.cnrom, .cpuRead a)
  | .cnromChrRead a => (.cnrom, .chrRead (a.setWidth 16))
  | .cnromChrWrite a v => (.cnrom, .chrWrite (a.setWidth 16) v)
  | .cnromPrgramRead a => (.cnrom, .cpuRead a)
  | .cnromPrgramWrite a v => (.cnrom, .cpuWrite a v)
  | .colorDreamsBankWrite a v => (.colorDreams, .cpuWrite a v)
  | .colorDreamsPrgRead a => (.colorDreams, .cpuRead a)
  | .colorDreamsChrRead a => (.colorDreams, .chrRead (a.setWidth 16))
  | .colorDreamsChrWrite a v => (.colorDreams, .chrWrite (a.setWidth 16) v)
  | .colorDreamsPrgramRead a => (.colorDreams, .cpuRead a)
  | .colorDreamsPrgramWrite a v => (.colorDreams, .cpuWrite a v)
  | .axromBankWrite a v => (.axrom, .cpuWrite a v)
  | .axromPrgRead a => (.axrom, .cpuRead a)
  | .axromPrgramRead a => (.axrom, .cpuRead a)
  | .axromPrgramWrite a v => (.axrom, .cpuWrite a v)
  | .axromChrRead a => (.axrom, .chrRead (a.setWidth 16))
  | .axromChrWrite a v => (.axrom, .chrWrite (a.setWidth 16) v)
  | .mmc1ResetWrite a v => (.mmc1, .cpuWrite a v)
  | .mmc1WriteControl a v => (.mmc1, .cpuWrite a v)
  | .mmc1WriteChr0 a v => (.mmc1, .cpuWrite a v)
  | .mmc1WriteChr1 a v => (.mmc1, .cpuWrite a v)
  | .mmc1WritePrg a v => (.mmc1, .cpuWrite a v)
  | .mmc1PrgReadLow a => (.mmc1, .cpuRead a)
  | .mmc1PrgReadHigh a => (.mmc1, .cpuRead a)
  | .mmc1ChrRead a => (.mmc1, .chrRead (a.setWidth 16))
  | .mmc1ChrWrite a v => (.mmc1, .chrWrite (a.setWidth 16) v)
  | .mmc1PrgramRead a => (.mmc1, .cpuRead a)
  | .mmc1PrgramWrite a v => (.mmc1, .cpuWrite a v)
  | .mmc3BankSelect a v => (.mmc3, .cpuWrite a v)
  | .mmc3BankData a v => (.mmc3, .cpuWrite a v)
  | .mmc3Mirroring a v => (.mmc3, .cpuWrite a v)
  | .mmc3PrgRamProtect a v => (.mmc3, .cpuWrite a v)
  | .mmc3IrqLatch a v => (.mmc3, .cpuWrite a v)
  | .mmc3IrqReload a v => (.mmc3, .cpuWrite a v)
  | .mmc3IrqDisable a v => (.mmc3, .cpuWrite a v)
  | .mmc3IrqEnable a v => (.mmc3, .cpuWrite a v)
  | .mmc3PrgRead a => (.mmc3, .cpuRead a)
  | .mmc3PrgramRead a => (.mmc3, .cpuRead a)
  | .mmc3PrgramWrite a v => (.mmc3, .cpuWrite a v)
  | .mmc3ChrRead a => (.mmc3, .chrRead (a.setWidth 16))
  | .mmc3ChrWrite a v => (.mmc3, .chrWrite (a.setWidth 16) v)
  | .mmc2PrgBank a v => (.mmc2, .cpuWrite a v)
  | .mmc2ChrFd0 a v => (.mmc2, .cpuWrite a v)
  | .mmc2ChrFe0 a v => (.mmc2, .cpuWrite a v)
  | .mmc2ChrFd1 a v => (.mmc2, .cpuWrite a v)
  | .mmc2ChrFe1 a v => (.mmc2, .cpuWrite a v)
  | .mmc2Mirroring a v => (.mmc2, .cpuWrite a v)
  | .mmc2IgnoredWrite a v => (.mmc2, .cpuWrite a v)
  | .mmc2PrgRead a => (.mmc2, .cpuRead a)
  | .mmc2ChrRead a => (.mmc2, .chrRead (a.setWidth 16))
  | .mmc2ChrWrite a v => (.mmc2, .chrWrite (a.setWidth 16) v)
  | .mmc2PrgramRead a => (.mmc2, .cpuRead a)
  | .mmc2PrgramWrite a v => (.mmc2, .cpuWrite a v)
  | .mmc4PrgBank a v => (.mmc4, .cpuWrite a v)
  | .mmc4ChrFd0 a v => (.mmc4, .cpuWrite a v)
  | .mmc4ChrFe0 a v => (.mmc4, .cpuWrite a v)
  | .mmc4ChrFd1 a v => (.mmc4, .cpuWrite a v)
  | .mmc4ChrFe1 a v => (.mmc4, .cpuWrite a v)
  | .mmc4Mirroring a v => (.mmc4, .cpuWrite a v)
  | .mmc4IgnoredWrite a v => (.mmc4, .cpuWrite a v)
  | .mmc4PrgRead a => (.mmc4, .cpuRead a)
  | .mmc4ChrRead a => (.mmc4, .chrRead (a.setWidth 16))
  | .mmc4ChrWrite a v => (.mmc4, .chrWrite (a.setWidth 16) v)
  | .mmc4PrgramRead a => (.mmc4, .cpuRead a)
  | .mmc4PrgramWrite a v => (.mmc4, .cpuWrite a v)
  | .mmc5AudioWrite a v => (.mmc5, .cpuWrite a v)
  | .mmc5AudioWriteHi a v => (.mmc5, .cpuWrite a v)
  | .mmc5AudioWriteTop a v => (.mmc5, .cpuWrite a v)
  | .mmc5PrgMode a v => (.mmc5, .cpuWrite a v)
  | .mmc5ChrMode a v => (.mmc5, .cpuWrite a v)
  | .mmc5RamProtect1 a v => (.mmc5, .cpuWrite a v)
  | .mmc5RamProtect2 a v => (.mmc5, .cpuWrite a v)
  | .mmc5ExramMode a v => (.mmc5, .cpuWrite a v)
  | .mmc5NtMap a v => (.mmc5, .cpuWrite a v)
  | .mmc5FillTile a v => (.mmc5, .cpuWrite a v)
  | .mmc5FillAttr a v => (.mmc5, .cpuWrite a v)
  | .mmc5PrgRamBank a v => (.mmc5, .cpuWrite a v)
  | .mmc5ChrUpper a v => (.mmc5, .cpuWrite a v)
  | .mmc5IrqTarget a v => (.mmc5, .cpuWrite a v)
  | .mmc5IrqEnable a v => (.mmc5, .cpuWrite a v)
  | .mmc5MulA a v => (.mmc5, .cpuWrite a v)
  | .mmc5MulB a v => (.mmc5, .cpuWrite a v)
  | .mmc5PrgBank a v => (.mmc5, .cpuWrite a v)
  | .mmc5ChrBank a v => (.mmc5, .cpuWrite a v)
  | .mmc5ChrBankB a v => (.mmc5, .cpuWrite a v)
  | .mmc5IrqStatus a => (.mmc5, .cpuRead a)
  | .mmc5MulLo a => (.mmc5, .cpuRead a)
  | .mmc5MulHi a => (.mmc5, .cpuRead a)
  | .mmc5ExramRead a => (.mmc5, .cpuRead a)
  | .mmc5ExramWrite a v => (.mmc5, .cpuWrite a v)
  | .mmc5PrgramRead a => (.mmc5, .cpuRead a)
  | .mmc5PrgRead a => (.mmc5, .cpuRead a)
  | .mmc5PrgramWrite a v => (.mmc5, .cpuWrite a v)
  | .mmc5PrgWrite a v => (.mmc5, .cpuWrite a v)
  | .mmc5ChrRead a => (.mmc5, .chrRead (a.setWidth 16))
  | .mmc5ChrWrite a v => (.mmc5, .chrWrite (a.setWidth 16) v)
  | .vrc6Prg16 a v => (.vrc6, .cpuWrite a v)
  | .vrc6Audio9 a v => (.vrc6, .cpuWrite a v)
  | .vrc6AudioA0 a v => (.vrc6, .cpuWrite a v)
  | .vrc6AudioA1 a v => (.vrc6, .cpuWrite a v)
  | .vrc6AudioA2 a v => (.vrc6, .cpuWrite a v)
  | .vrc6AudioB0 a v => (.vrc6, .cpuWrite a v)
  | .vrc6AudioB1 a v => (.vrc6, .cpuWrite a v)
  | .vrc6AudioB2 a v => (.vrc6, .cpuWrite a v)
  | .vrc6Ctrl a v => (.vrc6, .cpuWrite a v)
  | .vrc6Prg8 a v => (.vrc6, .cpuWrite a v)
  | .vrc6ChrD a v => (.vrc6, .cpuWrite a v)
  | .vrc6ChrE a v => (.vrc6, .cpuWrite a v)
  | .vrc6IrqLatch a v => (.vrc6, .cpuWrite a v)
  | .vrc6IrqControl a v => (.vrc6, .cpuWrite a v)
  | .vrc6IrqAck a v => (.vrc6, .cpuWrite a v)
  | .vrc6IgnoredA003 a v => (.vrc6, .cpuWrite a v)
  | .vrc6IgnoredF003 a v => (.vrc6, .cpuWrite a v)
  | .vrc6PrgRead a => (.vrc6, .cpuRead a)
  | .vrc6PrgramRead a => (.vrc6, .cpuRead a)
  | .vrc6PrgramWrite a v => (.vrc6, .cpuWrite a v)
  | .vrc6ChrRead a => (.vrc6, .chrRead (a.setWidth 16))
  | .vrc6ChrWrite a v => (.vrc6, .chrWrite (a.setWidth 16) v)
  | .vrc6aPrg16 a v => (.vrc6a, .cpuWrite a v)
  | .vrc6aAudio9 a v => (.vrc6a, .cpuWrite a v)
  | .vrc6aAudioA0 a v => (.vrc6a, .cpuWrite a v)
  | .vrc6aAudioA1 a v => (.vrc6a, .cpuWrite a v)
  | .vrc6aAudioA2 a v => (.vrc6a, .cpuWrite a v)
  | .vrc6aAudioB0 a v => (.vrc6a, .cpuWrite a v)
  | .vrc6aAudioB1 a v => (.vrc6a, .cpuWrite a v)
  | .vrc6aAudioB2 a v => (.vrc6a, .cpuWrite a v)
  | .vrc6aCtrl a v => (.vrc6a, .cpuWrite a v)
  | .vrc6aPrg8 a v => (.vrc6a, .cpuWrite a v)
  | .vrc6aChrD a v => (.vrc6a, .cpuWrite a v)
  | .vrc6aChrE a v => (.vrc6a, .cpuWrite a v)
  | .vrc6aIrqLatch a v => (.vrc6a, .cpuWrite a v)
  | .vrc6aIrqControl a v => (.vrc6a, .cpuWrite a v)
  | .vrc6aIrqAck a v => (.vrc6a, .cpuWrite a v)
  | .vrc6aIgnoredA003 a v => (.vrc6a, .cpuWrite a v)
  | .vrc6aIgnoredF003 a v => (.vrc6a, .cpuWrite a v)
  | .vrc6aPrgRead a => (.vrc6a, .cpuRead a)
  | .vrc6aPrgramRead a => (.vrc6a, .cpuRead a)
  | .vrc6aPrgramWrite a v => (.vrc6a, .cpuWrite a v)
  | .vrc6aChrRead a => (.vrc6a, .chrRead (a.setWidth 16))
  | .vrc6aChrWrite a v => (.vrc6a, .chrWrite (a.setWidth 16) v)
  | .vrc7Prg0 a v => (.vrc7, .cpuWrite a v)
  | .vrc7Prg1 a v => (.vrc7, .cpuWrite a v)
  | .vrc7Prg1A4 a v => (.vrc7, .cpuWrite a v)
  | .vrc7Prg2 a v => (.vrc7, .cpuWrite a v)
  | .vrc7IgnoredWrite a v => (.vrc7, .cpuWrite a v)
  | .vrc7AudioIndex a v => (.vrc7, .cpuWrite a v)
  | .vrc7AudioData a v => (.vrc7, .cpuWrite a v)
  | .vrc7ChrALo a v => (.vrc7, .cpuWrite a v)
  | .vrc7ChrAHi a v => (.vrc7, .cpuWrite a v)
  | .vrc7ChrAHiA4 a v => (.vrc7, .cpuWrite a v)
  | .vrc7ChrBLo a v => (.vrc7, .cpuWrite a v)
  | .vrc7ChrBHi a v => (.vrc7, .cpuWrite a v)
  | .vrc7ChrBHiA4 a v => (.vrc7, .cpuWrite a v)
  | .vrc7ChrCLo a v => (.vrc7, .cpuWrite a v)
  | .vrc7ChrCHi a v => (.vrc7, .cpuWrite a v)
  | .vrc7ChrCHiA4 a v => (.vrc7, .cpuWrite a v)
  | .vrc7ChrDLo a v => (.vrc7, .cpuWrite a v)
  | .vrc7ChrDHi a v => (.vrc7, .cpuWrite a v)
  | .vrc7ChrDHiA4 a v => (.vrc7, .cpuWrite a v)
  | .vrc7Ctrl a v => (.vrc7, .cpuWrite a v)
  | .vrc7IrqLatch a v => (.vrc7, .cpuWrite a v)
  | .vrc7IrqLatchA4 a v => (.vrc7, .cpuWrite a v)
  | .vrc7IrqControl a v => (.vrc7, .cpuWrite a v)
  | .vrc7IrqAck a v => (.vrc7, .cpuWrite a v)
  | .vrc7IrqAckA4 a v => (.vrc7, .cpuWrite a v)
  | .vrc7PrgRead a => (.vrc7, .cpuRead a)
  | .vrc7PrgramRead a => (.vrc7, .cpuRead a)
  | .vrc7PrgramWrite a v => (.vrc7, .cpuWrite a v)
  | .vrc7ChrRead a => (.vrc7, .chrRead (a.setWidth 16))
  | .vrc7ChrWrite a v => (.vrc7, .chrWrite (a.setWidth 16) v)
  | .fdsRamRead6 a => (.fds, .cpuRead a)
  | .fdsRamRead8 a => (.fds, .cpuRead a)
  | .fdsRamReadC a => (.fds, .cpuRead a)
  | .fdsRamWrite6 a v => (.fds, .cpuWrite a v)
  | .fdsRamWrite8 a v => (.fds, .cpuWrite a v)
  | .fdsRamWriteC a v => (.fds, .cpuWrite a v)
  | .fdsBiosRead a => (.fds, .cpuRead a)
  | .fdsBiosWrite a v => (.fds, .cpuWrite a v)
  | .fdsTimerReloadLo a v => (.fds, .cpuWrite a v)
  | .fdsTimerReloadHi a v => (.fds, .cpuWrite a v)
  | .fdsTimerCtrl a v => (.fds, .cpuWrite a v)
  | .fdsMasterIo a v => (.fds, .cpuWrite a v)
  | .fdsWriteData a v => (.fds, .cpuWrite a v)
  | .fdsControl a v => (.fds, .cpuWrite a v)
  | .fdsExtOut a v => (.fds, .cpuWrite a v)
  | .fdsDiskStatus a => (.fds, .cpuRead a)
  | .fdsReadData a => (.fds, .cpuRead a)
  | .fdsDriveStatus a => (.fds, .cpuRead a)
  | .fdsExtIn a => (.fds, .cpuRead a)
  | .fdsWaveWrite a v => (.fds, .cpuWrite a v)
  | .fdsWaveRead a => (.fds, .cpuRead a)
  | .fdsAudioWrite a v => (.fds, .cpuWrite a v)
  | .fdsAudioWriteHi a v => (.fds, .cpuWrite a v)
  | .fdsAudioWriteTop a v => (.fds, .cpuWrite a v)
  | .fdsChrRead a => (.fds, .chrRead (a.setWidth 16))
  | .fdsChrWrite a v => (.fds, .chrWrite (a.setWidth 16) v)

/-- The kind whose row an instruction is. -/
def Instr.kind (i : Instr) : Kind := i.target.1

/-- The transaction an instruction decodes from. -/
def Instr.bus (i : Instr) : Bus := i.target.2

/-- The fifteen kinds in the order of R36. -/
def Kind.all : List Kind :=
  [.nrom, .uxrom, .camerica, .cnrom, .colorDreams, .axrom, .mmc1, .mmc3, .mmc2, .mmc4, .mmc5] ++
  [.vrc6, .vrc6a, .vrc7, .fds]

/-- A kind's place in `Kind.all`. -/
def Kind.index : Kind → Nat
  | .nrom => 0
  | .uxrom => 1
  | .camerica => 2
  | .cnrom => 3
  | .colorDreams => 4
  | .axrom => 5
  | .mmc1 => 6
  | .mmc3 => 7
  | .mmc2 => 8
  | .mmc4 => 9
  | .mmc5 => 10
  | .vrc6 => 11
  | .vrc6a => 12
  | .vrc7 => 13
  | .fds => 14

/-- A format's place in the table of R300. -/
def Bus.format : Bus → Nat
  | .cpuRead _ => 0
  | .cpuWrite _ _ => 1
  | .chrRead _ => 2
  | .chrWrite _ _ => 3

/-- The address a transaction presents. -/
def Bus.addr : Bus → Word
  | .cpuRead a => a
  | .cpuWrite a _ => a
  | .chrRead a => a
  | .chrWrite a _ => a

/-- The value a transaction presents; a read presents none, written 0. -/
def Bus.value : Bus → Byte
  | .cpuRead _ => 0
  | .cpuWrite _ v => v
  | .chrRead _ => 0
  | .chrWrite _ v => v

/-- The transaction of a format number. -/
def Bus.ofFormat (f : Nat) (a : Word) (v : Byte) : Bus :=
  if f = 0 then .cpuRead a else if f = 1 then .cpuWrite a v
  else if f = 2 then .chrRead a else .chrWrite a v

/-- The tag byte that names a kind and a format: 1 to 60. -/
def tagOf (k : Kind) (b : Bus) : Byte := BitVec.ofNat 8 (1 + 4 * k.index + b.format)

/-- The byte form of an instruction: address low, address high, value, tag. -/
def encode (i : Instr) : List Byte :=
  [i.bus.addr.extractLsb 7 0, i.bus.addr.extractLsb 15 8, i.bus.value, tagOf i.kind i.bus]

/-! ## Decoding the byte form -/

/-- How many address and value bits a row fixes. -/
def Row.weight (r : Row) : Nat :=
  (List.range 16).countP (fun j => r.mask.getLsbD j) +
  (List.range 8).countP (fun j => r.dmask.getLsbD j)

/-- How well a row names an address: a row whose `match` is the address itself comes before one
that leaves a set bit free, then the row with more fixed bits. -/
def Row.rank (r : Row) (a : Word) : Nat := r.weight + if r.want == a then 32 else 0

/-- The first of the rows of the highest rank. -/
def bestRow (a : Word) : List Row → Option Row
  | [] => none
  | r :: rest =>
    match bestRow a rest with
    | none => some r
    | some q => if q.rank a ≤ r.rank a then some r else some q

/-- What an untagged address and value name: the CPU row, of any kind, that fits and has the
highest rank, the first on ties (log entry 11). -/
def untagged (a : Word) (v : Byte) : Option Instr :=
  let rows := Kind.all.flatMap fun k => cpuReadRows k ++ cpuWriteRows k
  (bestRow a (rows.filter fun r => r.accepts a v)).map fun r => r.build a v

/-- The kind and the transaction that an address, a value and a tag name. -/
def targetOf (a : Word) (v tag : Byte) : Except Reject (Kind × Bus) :=
  if tag = 0 then
    match untagged a v with
    | some i => .ok i.target
    | none => .error .unmapped
  else
    match Kind.all[(tag.toNat - 1) / 4]? with
    | some k => .ok (k, Bus.ofFormat ((tag.toNat - 1) % 4) a v)
    | none => .error .badTag

/-- The kind and the transaction at the head of a byte sequence, and the bytes after it. -/
def targetOfBytes : List Byte → Except Reject ((Kind × Bus) × List Byte)
  | lo :: hi :: v :: tag :: rest =>
    match targetOf (hi ++ lo) v tag with
    | .ok t => .ok (t, rest)
    | .error e => .error e
  | _ => .error .short

/-- The instruction at the head of a byte sequence, and the bytes after it. -/
def decodeBytes (bytes : List Byte) : Except Reject (Instr × List Byte) :=
  match targetOfBytes bytes with
  | .ok (t, rest) =>
    match decode t.1 t.2 with
    | .ok i => .ok (i, rest)
    | .error e => .error e
  | .error e => .error e

/-- The byte form of an instruction whose low `nbits` bits are `w` and whose other bits are 0. -/
def tableBytes (nbits w : Nat) : List Byte :=
  let x := BitVec.ofNat 32 (w % 2 ^ nbits)
  [x.extractLsb 7 0, x.extractLsb 15 8, x.extractLsb 23 16, x.extractLsb 31 24]

/-- The instruction the decoder reads from a word of spec/opcode_table.json: address in bits 15:0,
value in bits 23:16, tag in bits 31:24. -/
def decodeTableWord (nbits w : Nat) : Option Instr :=
  match decodeBytes (tableBytes nbits w) with
  | .ok (i, _) => some i
  | .error _ => none

end Sys2Proof
end

