-- ==== Sys2Proof/Machine/Fds.lean ====
section
/-!
DEFINITION. FDS, the disk-system RAM adapter (47_fds.md).
-/

namespace Sys2Proof.Machine

open Sys2Proof.Config

/-- FDS.RAM_READ_6, R1102: the linear onboard RAM. -/
def execFdsRamRead6 (a : Word) (s : State) : Result :=
  reply (s.prgRam.read (fdsRamOffset s a)) s

/-- FDS.RAM_READ_8, R1102: the linear onboard RAM. -/
def execFdsRamRead8 (a : Word) (s : State) : Result :=
  reply (s.prgRam.read (fdsRamOffset s a)) s

/-- FDS.RAM_READ_C, R1102: the linear onboard RAM. -/
def execFdsRamReadC (a : Word) (s : State) : Result :=
  reply (s.prgRam.read (fdsRamOffset s a)) s

/-- FDS.RAM_WRITE_6, R1103: the linear onboard RAM, never protected. -/
def execFdsRamWrite6 (a : Word) (v : Byte) (s : State) : Result :=
  done (storePrgRam s (fdsRamOffset s a) v)

/-- FDS.RAM_WRITE_8, R1103: the linear onboard RAM, never protected. -/
def execFdsRamWrite8 (a : Word) (v : Byte) (s : State) : Result :=
  done (storePrgRam s (fdsRamOffset s a) v)

/-- FDS.RAM_WRITE_C, R1103: the linear onboard RAM, never protected. -/
def execFdsRamWriteC (a : Word) (v : Byte) (s : State) : Result :=
  done (storePrgRam s (fdsRamOffset s a) v)

/-- FDS.BIOS_READ, R1104: the first 8K of PRG-ROM. -/
def execFdsBiosRead (a : Word) (s : State) : Result :=
  reply (prgRomBank s 0 k8 a) s

/-- FDS.BIOS_WRITE, R1105: ROM is never written. -/
def execFdsBiosWrite (_a : Word) (_v : Byte) (s : State) : Result :=
  done s

/-- FDS.TIMER_RELOAD_LO, R1110: `timer_reload[7:0] <- value`. -/
def execFdsTimerReloadLo (_a : Word) (v : Byte) (s : State) : Result :=
  done { s with regs.fds.timerReload := s.regs.fds.timerReload.extractLsb 15 8 ++ v }

/-- FDS.TIMER_RELOAD_HI, R1111: `timer_reload[15:8] <- value`. -/
def execFdsTimerReloadHi (_a : Word) (v : Byte) (s : State) : Result :=
  done { s with regs.fds.timerReload := v ++ s.regs.fds.timerReload.extractLsb 7 0 }

/-- FDS.TIMER_CTRL, R1112: control, the counter loaded where it may run, and the acknowledge of R1212 where bit 1 is clear. -/
def execFdsTimerCtrl (_a : Word) (v : Byte) (s : State) : Result :=
  let r := s.regs.fds
  let s1 := { s with regs.fds.timerCtrl := v.extractLsb 1 0
                     regs.fds.timerCounter :=
                       if v.extractLsb 1 1 = 1 ∧ r.masterIo.extractLsb 0 0 = 1 then r.timerReload
                       else r.timerCounter }
  done (if v.extractLsb 1 1 = 0 then ackIrq .fds s1 else s1)

/-- FDS.MASTER_IO, R1113: with bit 0 clear the timer is disabled and the IRQ acknowledged (R1212). -/
def execFdsMasterIo (_a : Word) (v : Byte) (s : State) : Result :=
  let s1 := { s with regs.fds.masterIo := v.extractLsb 1 0 }
  done (if v.extractLsb 0 0 = 0 then
    ackIrq .fds { s1 with regs.fds.timerCtrl := s.regs.fds.timerCtrl &&& 0b01 } else s1)

/-- FDS.WRITE_DATA, R1114: `write_data <- value`. -/
def execFdsWriteData (_a : Word) (v : Byte) (s : State) : Result :=
  done { s with regs.fds.writeData := v }

/-- FDS.CONTROL, R1115: `fds_ctrl <- value`, and `value[3]` selects the mirroring mode (R105). -/
def execFdsControl (_a : Word) (v : Byte) (s : State) : Result :=
  done (setMirror (hvMirror (v.extractLsb 3 3)) { s with regs.fds.fdsCtrl := v })

/-- FDS.EXT_OUT, R1116: `ext_out <- value`. -/
def execFdsExtOut (_a : Word) (v : Byte) (s : State) : Result :=
  done { s with regs.fds.extOut := v }

/-- FDS.DISK_STATUS, R1117: bit 0 is `irq_pending`; the read does not clear it. -/
def execFdsDiskStatus (_a : Word) (s : State) : Result :=
  reply (if s.regs.fds.irqPending then 0x01 else 0x00) s

/-- FDS.READ_DATA, R1118. -/
def execFdsReadData (_a : Word) (s : State) : Result :=
  reply 0x00 s

/-- FDS.DRIVE_STATUS, R1119. -/
def execFdsDriveStatus (_a : Word) (s : State) : Result :=
  reply 0x07 s

/-- FDS.EXT_IN, R1120. -/
def execFdsExtIn (_a : Word) (s : State) : Result :=
  reply 0x80 s

/-- FDS.WAVE_WRITE, R1121: `wave_ram[addr[5:0]] <- value[5:0]`. -/
def execFdsWaveWrite (a : Word) (v : Byte) (s : State) : Result :=
  done { s with
    regs.fds.waveRam :=
      regSet s.regs.fds.waveRam (a.extractLsb 5 0).toNat (v.extractLsb 5 0) }

/-- FDS.WAVE_READ, R1122: `zext_8(wave_ram[addr[5:0]])`. -/
def execFdsWaveRead (a : Word) (s : State) : Result :=
  reply ((regAt s.regs.fds.waveRam (a.extractLsb 5 0).toNat).setWidth 8) s

/-- FDS.AUDIO_WRITE, R1123: `audio[addr[2:0]] <- value`. -/
def execFdsAudioWrite (a : Word) (v : Byte) (s : State) : Result :=
  done { s with regs.fds.audio := regSet s.regs.fds.audio (a.extractLsb 2 0).toNat v }

/-- FDS.AUDIO_WRITE_HI, R1123: `audio[8 + addr[0]] <- value`. -/
def execFdsAudioWriteHi (a : Word) (v : Byte) (s : State) : Result :=
  done { s with regs.fds.audio := regSet s.regs.fds.audio (8 + (a.extractLsb 0 0).toNat) v }

/-- FDS.AUDIO_WRITE_TOP, R1123: `audio[10] <- value`. -/
def execFdsAudioWriteTop (_a : Word) (v : Byte) (s : State) : Result :=
  done { s with regs.fds.audio := regSet s.regs.fds.audio 10 v }

/-- FDS.CHR_READ, R230: unbanked CHR. -/
def execFdsChrRead (a : ChrAddr) (s : State) : Result :=
  reply (unbankedChr s a) s

/-- FDS.CHR_WRITE, R231: unbanked CHR. -/
def execFdsChrWrite (a : ChrAddr) (v : Byte) (s : State) : Result :=
  done (unbankedChrStore s a v)

end Sys2Proof.Machine
end

