-- ==== Sys2Proof/Machine/Mmc1.lean ====
section
/-!
DEFINITION. MMC1, the serial shift-register mapper (42_mmc1.md).
-/

namespace Sys2Proof.Machine

open Sys2Proof.Config

/-- MMC1.RESET_WRITE, R601: the serial port is emptied and `control <- control | 0x0C`. -/
def execMmc1ResetWrite (_a : Word) (_v : Byte) (s : State) : Result :=
  done { s with regs.mmc1.shift := 0
                regs.mmc1.shiftCount := 0
                regs.mmc1.control := s.regs.mmc1.control ||| 0x0C }

/-- MMC1.WRITE_CONTROL, R602: one serial write (R600). -/
def execMmc1WriteControl (a : Word) (v : Byte) (s : State) : Result :=
  done (mmc1Shift a v s)

/-- MMC1.WRITE_CHR0, R603: one serial write (R600). -/
def execMmc1WriteChr0 (a : Word) (v : Byte) (s : State) : Result :=
  done (mmc1Shift a v s)

/-- MMC1.WRITE_CHR1, R604: one serial write (R600). -/
def execMmc1WriteChr1 (a : Word) (v : Byte) (s : State) : Result :=
  done (mmc1Shift a v s)

/-- MMC1.WRITE_PRG, R605: one serial write (R600). -/
def execMmc1WritePrg (a : Word) (v : Byte) (s : State) : Result :=
  done (mmc1Shift a v s)

/-- MMC1.PRG_READ_LOW, R610: the $8000–$BFFF column of R607. -/
def execMmc1PrgReadLow (a : Word) (s : State) : Result :=
  reply (prgWindowByte s (mmc1PrgLow s.regs.mmc1) a) s

/-- MMC1.PRG_READ_HIGH, R611: the $C000–$FFFF column of R607. -/
def execMmc1PrgReadHigh (a : Word) (s : State) : Result :=
  reply (prgWindowByte s (mmc1PrgHigh s.regs.mmc1 (prgFromEnd s k16 1)) a) s

/-- MMC1.CHR_READ, R612: the CHR window of R608. -/
def execMmc1ChrRead (a : ChrAddr) (s : State) : Result :=
  reply (chrWindowByte s (mmc1Chr s.regs.mmc1 a) a) s

/-- MMC1.CHR_WRITE, R613: the CHR window of R608. -/
def execMmc1ChrWrite (a : ChrAddr) (v : Byte) (s : State) : Result :=
  done (chrWindowStore s (mmc1Chr s.regs.mmc1 a) a v)

/-- MMC1.PRGRAM_READ, R220: the standard PRG-RAM window. -/
def execMmc1PrgramRead (a : Word) (s : State) : Result :=
  reply (stdPrgRam s a) s

/-- MMC1.PRGRAM_WRITE, R221: the standard PRG-RAM window. -/
def execMmc1PrgramWrite (a : Word) (v : Byte) (s : State) : Result :=
  done (stdPrgRamStore s a v)

end Sys2Proof.Machine
end

