-- ==== Sys2Proof/Machine/Mmc2.lean ====
section
/-!
DEFINITION. MMC2 and MMC4: latch-triggered CHR switching (44_mmc2_mmc4.md). Both share every rule but
the PRG window.
-/

namespace Sys2Proof.Machine

open Sys2Proof.Config

/-- MMC2.PRG_BANK, R801: `prg_bank <- value[3:0]`. -/
def execMmc2PrgBank (_a : Word) (v : Byte) (s : State) : Result :=
  done { s with regs.mmc24.prgBank := v.extractLsb 3 0 }

/-- MMC2.CHR_FD0, R802: `chr_fd0 <- value[4:0]`. -/
def execMmc2ChrFd0 (_a : Word) (v : Byte) (s : State) : Result :=
  done { s with regs.mmc24.chrFd0 := v.extractLsb 4 0 }

/-- MMC2.CHR_FE0, R803: `chr_fe0 <- value[4:0]`. -/
def execMmc2ChrFe0 (_a : Word) (v : Byte) (s : State) : Result :=
  done { s with regs.mmc24.chrFe0 := v.extractLsb 4 0 }

/-- MMC2.CHR_FD1, R804: `chr_fd1 <- value[4:0]`. -/
def execMmc2ChrFd1 (_a : Word) (v : Byte) (s : State) : Result :=
  done { s with regs.mmc24.chrFd1 := v.extractLsb 4 0 }

/-- MMC2.CHR_FE1, R805: `chr_fe1 <- value[4:0]`. -/
def execMmc2ChrFe1 (_a : Word) (v : Byte) (s : State) : Result :=
  done { s with regs.mmc24.chrFe1 := v.extractLsb 4 0 }

/-- MMC2.MIRRORING, R806: `mirroring <- value[0]`, and the mirroring mode follows (R105). -/
def execMmc2Mirroring (_a : Word) (v : Byte) (s : State) : Result :=
  done (setMirror (hvMirror (v.extractLsb 0 0)) { s with regs.mmc24.mirroring := v.extractLsb 0 0 })

/-- MMC2.IGNORED_WRITE, R807: no effect. -/
def execMmc2IgnoredWrite (_a : Word) (_v : Byte) (s : State) : Result :=
  done s

/-- MMC2.PRG_READ, R810: 8K banks; the switchable one at $8000, the last three above it. -/
def execMmc2PrgRead (a : Word) (s : State) : Result :=
  let w := a.extractLsb 14 13
  reply (prgRomBank s (if w = 0 then s.regs.mmc24.prgBank.toNat else prgFromEnd s k8 (4 - w.toNat)) k8 a) s

/-- MMC2.CHR_READ, R812: the byte of the bank the latch selects before this read, then the latch update (R813). -/
def execMmc2ChrRead (a : ChrAddr) (s : State) : Result :=
  reply (chrWindowByte s (mmc24Chr s.regs.mmc24 a) a)
    { s with regs.mmc24 := latchUpdate a s.regs.mmc24 }

/-- MMC2.CHR_WRITE, R814: stored through the bank of R812; no latch moves. -/
def execMmc2ChrWrite (a : ChrAddr) (v : Byte) (s : State) : Result :=
  done (chrWindowStore s (mmc24Chr s.regs.mmc24 a) a v)

/-- MMC2.PRGRAM_READ, R220: the standard PRG-RAM window. -/
def execMmc2PrgramRead (a : Word) (s : State) : Result :=
  reply (stdPrgRam s a) s

/-- MMC2.PRGRAM_WRITE, R221: the standard PRG-RAM window. -/
def execMmc2PrgramWrite (a : Word) (v : Byte) (s : State) : Result :=
  done (stdPrgRamStore s a v)

/-- MMC4.PRG_BANK, R801: `prg_bank <- value[3:0]`. -/
def execMmc4PrgBank (_a : Word) (v : Byte) (s : State) : Result :=
  done { s with regs.mmc24.prgBank := v.extractLsb 3 0 }

/-- MMC4.CHR_FD0, R802: `chr_fd0 <- value[4:0]`. -/
def execMmc4ChrFd0 (_a : Word) (v : Byte) (s : State) : Result :=
  done { s with regs.mmc24.chrFd0 := v.extractLsb 4 0 }

/-- MMC4.CHR_FE0, R803: `chr_fe0 <- value[4:0]`. -/
def execMmc4ChrFe0 (_a : Word) (v : Byte) (s : State) : Result :=
  done { s with regs.mmc24.chrFe0 := v.extractLsb 4 0 }

/-- MMC4.CHR_FD1, R804: `chr_fd1 <- value[4:0]`. -/
def execMmc4ChrFd1 (_a : Word) (v : Byte) (s : State) : Result :=
  done { s with regs.mmc24.chrFd1 := v.extractLsb 4 0 }

/-- MMC4.CHR_FE1, R805: `chr_fe1 <- value[4:0]`. -/
def execMmc4ChrFe1 (_a : Word) (v : Byte) (s : State) : Result :=
  done { s with regs.mmc24.chrFe1 := v.extractLsb 4 0 }

/-- MMC4.MIRRORING, R806: `mirroring <- value[0]`, and the mirroring mode follows (R105). -/
def execMmc4Mirroring (_a : Word) (v : Byte) (s : State) : Result :=
  done (setMirror (hvMirror (v.extractLsb 0 0)) { s with regs.mmc24.mirroring := v.extractLsb 0 0 })

/-- MMC4.IGNORED_WRITE, R807: no effect. -/
def execMmc4IgnoredWrite (_a : Word) (_v : Byte) (s : State) : Result :=
  done s

/-- MMC4.PRG_READ, R811: 16K banks; the switchable one at $8000, the last at $C000. -/
def execMmc4PrgRead (a : Word) (s : State) : Result :=
  reply (prgRomBank s
    (if a.extractLsb 14 14 = 0 then s.regs.mmc24.prgBank.toNat else prgFromEnd s k16 1) k16 a) s

/-- MMC4.CHR_READ, R812: the byte of the bank the latch selects before this read, then the latch update (R813). -/
def execMmc4ChrRead (a : ChrAddr) (s : State) : Result :=
  reply (chrWindowByte s (mmc24Chr s.regs.mmc24 a) a)
    { s with regs.mmc24 := latchUpdate a s.regs.mmc24 }

/-- MMC4.CHR_WRITE, R814: stored through the bank of R812; no latch moves. -/
def execMmc4ChrWrite (a : ChrAddr) (v : Byte) (s : State) : Result :=
  done (chrWindowStore s (mmc24Chr s.regs.mmc24 a) a v)

/-- MMC4.PRGRAM_READ, R220: the standard PRG-RAM window. -/
def execMmc4PrgramRead (a : Word) (s : State) : Result :=
  reply (stdPrgRam s a) s

/-- MMC4.PRGRAM_WRITE, R221: the standard PRG-RAM window. -/
def execMmc4PrgramWrite (a : Word) (v : Byte) (s : State) : Result :=
  done (stdPrgRamStore s a v)

end Sys2Proof.Machine
end

