-- ==== Sys2Proof/Machine/Mmc3.lean ====
section
/-!
DEFINITION. MMC3: even/odd registers, bank windows and the A12-edge IRQ (43_mmc3.md).
-/

namespace Sys2Proof.Machine

open Sys2Proof.Config

/-- MMC3.BANK_SELECT, R701: `bank_select <- value`. -/
def execMmc3BankSelect (_a : Word) (v : Byte) (s : State) : Result :=
  done { s with regs.mmc3.bankSelect := v }

/-- MMC3.BANK_DATA, R702: `R[bank_select[2:0]] <- value`. -/
def execMmc3BankData (_a : Word) (v : Byte) (s : State) : Result :=
  done { s with
    regs.mmc3.r :=
      regSet s.regs.mmc3.r (s.regs.mmc3.bankSelect.extractLsb 2 0).toNat v }

/-- MMC3.MIRRORING, R703: `mirroring <- value[0]`, and the mirroring mode follows (R105). -/
def execMmc3Mirroring (_a : Word) (v : Byte) (s : State) : Result :=
  done (setMirror (hvMirror (v.extractLsb 0 0)) { s with regs.mmc3.mirroring := v.extractLsb 0 0 })

/-- MMC3.PRG_RAM_PROTECT, R704: `prg_ram_protect <- value`. -/
def execMmc3PrgRamProtect (_a : Word) (v : Byte) (s : State) : Result :=
  done { s with regs.mmc3.prgRamProtect := v }

/-- MMC3.IRQ_LATCH, R705: `irq_latch <- value`. -/
def execMmc3IrqLatch (_a : Word) (v : Byte) (s : State) : Result :=
  done { s with regs.mmc3.irqLatch := v }

/-- MMC3.IRQ_RELOAD, R706: `irq_counter <- 0; irq_reload <- true`. -/
def execMmc3IrqReload (_a : Word) (_v : Byte) (s : State) : Result :=
  done { s with regs.mmc3.irqCounter := 0
                regs.mmc3.irqReload := true }

/-- MMC3.IRQ_DISABLE, R707: `irq_enable <- false`, and the acknowledge of R1212. -/
def execMmc3IrqDisable (_a : Word) (_v : Byte) (s : State) : Result :=
  done (ackIrq .mmc3 { s with regs.mmc3.irqEnable := false })

/-- MMC3.IRQ_ENABLE, R708: `irq_enable <- true`. -/
def execMmc3IrqEnable (_a : Word) (_v : Byte) (s : State) : Result :=
  done { s with regs.mmc3.irqEnable := true }

/-- MMC3.PRG_READ, R710: the 8K bank of R709. -/
def execMmc3PrgRead (a : Word) (s : State) : Result :=
  reply (prgRomBank s (mmc3PrgBank s.regs.mmc3 (prgFromEnd s k8 1) (prgFromEnd s k8 2) a) k8 a) s

/-- MMC3.PRGRAM_READ, R713: PRG-RAM where `prg_ram_protect[7]` enables it, else 0. -/
def execMmc3PrgramRead (a : Word) (s : State) : Result :=
  reply (if s.regs.mmc3.prgRamProtect.extractLsb 7 7 = 1 then prgRamBank s 0 k8 a else 0) s

/-- MMC3.PRGRAM_WRITE, R714: stored where `prg_ram_protect[7]` enables and `prg_ram_protect[6]` does not refuse it. -/
def execMmc3PrgramWrite (a : Word) (v : Byte) (s : State) : Result :=
  done (if s.regs.mmc3.prgRamProtect.extractLsb 7 7 = 1 ∧
           s.regs.mmc3.prgRamProtect.extractLsb 6 6 = 0 then prgRamStore s 0 k8 a v else s)

/-- MMC3.CHR_READ, R712: the byte of R711 with the state before the access, then the edge detector. -/
def execMmc3ChrRead (a : ChrAddr) (s : State) : Result :=
  reply (chrWindowByte s (mmc3Chr s.regs.mmc3 a) a) (edgeDetect a s)

/-- MMC3.CHR_WRITE, R715: stored through R711, then the edge detector. -/
def execMmc3ChrWrite (a : ChrAddr) (v : Byte) (s : State) : Result :=
  done (edgeDetect a (chrWindowStore s (mmc3Chr s.regs.mmc3 a) a v))

end Sys2Proof.Machine
end

