-- ==== Sys2Proof/Machine/Mmc5.lean ====
section
/-!
DEFINITION. MMC5: mode tables, ExRAM, multiplier, scanline IRQ (45_mmc5.md).
-/

namespace Sys2Proof.Machine

open Sys2Proof.Config

/-- MMC5.AUDIO_WRITE, R922: `audio[i] <- value`, `i = addr[3:0]`. -/
def execMmc5AudioWrite (a : Word) (v : Byte) (s : State) : Result :=
  done { s with regs.mmc5.audio := regSet s.regs.mmc5.audio (a.extractLsb 3 0).toNat v }

/-- MMC5.AUDIO_WRITE_HI, R922: `audio[i] <- value`, `i = 16 + addr[1:0]`. -/
def execMmc5AudioWriteHi (a : Word) (v : Byte) (s : State) : Result :=
  done { s with regs.mmc5.audio := regSet s.regs.mmc5.audio (16 + (a.extractLsb 1 0).toNat) v }

/-- MMC5.AUDIO_WRITE_TOP, R922: `audio[i] <- value`, `i = 20 + addr[0]`. -/
def execMmc5AudioWriteTop (a : Word) (v : Byte) (s : State) : Result :=
  done { s with regs.mmc5.audio := regSet s.regs.mmc5.audio (20 + (a.extractLsb 0 0).toNat) v }

/-- MMC5.PRG_MODE, R901: `prg_mode <- value[1:0]`. -/
def execMmc5PrgMode (_a : Word) (v : Byte) (s : State) : Result :=
  done { s with regs.mmc5.prgMode := v.extractLsb 1 0 }

/-- MMC5.CHR_MODE, R902: `chr_mode <- value[1:0]`. -/
def execMmc5ChrMode (_a : Word) (v : Byte) (s : State) : Result :=
  done { s with regs.mmc5.chrMode := v.extractLsb 1 0 }

/-- MMC5.RAM_PROTECT1, R903: `ram_protect1 <- value[1:0]`. -/
def execMmc5RamProtect1 (_a : Word) (v : Byte) (s : State) : Result :=
  done { s with regs.mmc5.ramProtect1 := v.extractLsb 1 0 }

/-- MMC5.RAM_PROTECT2, R904: `ram_protect2 <- value[1:0]`. -/
def execMmc5RamProtect2 (_a : Word) (v : Byte) (s : State) : Result :=
  done { s with regs.mmc5.ramProtect2 := v.extractLsb 1 0 }

/-- MMC5.EXRAM_MODE, R905: `exram_mode <- value[1:0]`. -/
def execMmc5ExramMode (_a : Word) (v : Byte) (s : State) : Result :=
  done { s with regs.mmc5.exramMode := v.extractLsb 1 0 }

/-- MMC5.NT_MAP, R906: `nt_map <- value`, and the mirroring mode where the value names one. -/
def execMmc5NtMap (_a : Word) (v : Byte) (s : State) : Result :=
  let s1 := { s with regs.mmc5.ntMap := v }
  done (match mmc5Mirror v with | some m => setMirror m s1 | none => s1)

/-- MMC5.FILL_TILE, R907: `fill_tile <- value`. -/
def execMmc5FillTile (_a : Word) (v : Byte) (s : State) : Result :=
  done { s with regs.mmc5.fillTile := v }

/-- MMC5.FILL_ATTR, R908: `fill_attr <- value[1:0]`. -/
def execMmc5FillAttr (_a : Word) (v : Byte) (s : State) : Result :=
  done { s with regs.mmc5.fillAttr := v.extractLsb 1 0 }

/-- MMC5.PRG_RAM_BANK, R909: `prg_reg[0] <- value`. -/
def execMmc5PrgRamBank (_a : Word) (v : Byte) (s : State) : Result :=
  done { s with regs.mmc5.prgReg := regSet s.regs.mmc5.prgReg 0 v }

/-- MMC5.CHR_UPPER, R912: `chr_upper <- value[1:0]`. -/
def execMmc5ChrUpper (_a : Word) (v : Byte) (s : State) : Result :=
  done { s with regs.mmc5.chrUpper := v.extractLsb 1 0 }

/-- MMC5.IRQ_TARGET, R913: `irq_scanline <- value`. -/
def execMmc5IrqTarget (_a : Word) (v : Byte) (s : State) : Result :=
  done { s with regs.mmc5.irqScanline := v }

/-- MMC5.IRQ_ENABLE, R914: `irq_enable <- (value[7] = 1)`. -/
def execMmc5IrqEnable (_a : Word) (v : Byte) (s : State) : Result :=
  done { s with regs.mmc5.irqEnable := v.extractLsb 7 7 == 1 }

/-- MMC5.MUL_A, R916: `mul_a <- value`. -/
def execMmc5MulA (_a : Word) (v : Byte) (s : State) : Result :=
  done { s with regs.mmc5.mulA := v }

/-- MMC5.MUL_B, R917: `mul_b <- value`. -/
def execMmc5MulB (_a : Word) (v : Byte) (s : State) : Result :=
  done { s with regs.mmc5.mulB := v }

/-- MMC5.PRG_BANK, R910: `prg_reg[i] <- value`, `i = addr - $5113`, which is `addr[1:0] + 1`. -/
def execMmc5PrgBank (a : Word) (v : Byte) (s : State) : Result :=
  done { s with
    regs.mmc5.prgReg :=
      regSet s.regs.mmc5.prgReg ((a.extractLsb 1 0).toNat + 1) v }

/-- MMC5.CHR_BANK, R911: `chr_reg[i] <- value`, `i = addr[2:0]`. -/
def execMmc5ChrBank (a : Word) (v : Byte) (s : State) : Result :=
  done { s with regs.mmc5.chrReg := regSet s.regs.mmc5.chrReg (a.extractLsb 2 0).toNat v }

/-- MMC5.CHR_BANK_B, R911: `chr_reg[i] <- value`, `i = 8 + addr[1:0]`. -/
def execMmc5ChrBankB (a : Word) (v : Byte) (s : State) : Result :=
  done { s with
    regs.mmc5.chrReg :=
      regSet s.regs.mmc5.chrReg (8 + (a.extractLsb 1 0).toNat) v }

/-- MMC5.IRQ_STATUS, R915: bit 7 is `irq_pending`; the read does not clear it. -/
def execMmc5IrqStatus (_a : Word) (s : State) : Result :=
  reply (if s.regs.mmc5.irqPending then 0x80 else 0x00) s

/-- MMC5.MUL_LO, R918: the product's low byte. -/
def execMmc5MulLo (_a : Word) (s : State) : Result :=
  reply ((mmc5Product s.regs.mmc5).extractLsb 7 0) s

/-- MMC5.MUL_HI, R919: the product's high byte. -/
def execMmc5MulHi (_a : Word) (s : State) : Result :=
  reply ((mmc5Product s.regs.mmc5).extractLsb 15 8) s

/-- MMC5.EXRAM_READ, R920: `exram[addr - 0x5C00]`, which is `exram[addr[9:0]]`. -/
def execMmc5ExramRead (a : Word) (s : State) : Result :=
  reply (s.exram.read (a.extractLsb 9 0).toNat) s

/-- MMC5.EXRAM_WRITE, R921: `exram[addr - 0x5C00] <- value`. -/
def execMmc5ExramWrite (a : Word) (v : Byte) (s : State) : Result :=
  done { s with exram := s.exram.write (a.extractLsb 9 0).toNat v }

/-- MMC5.PRGRAM_READ, R931: the PRG-RAM bank of `prg_reg[0]`. -/
def execMmc5PrgramRead (a : Word) (s : State) : Result :=
  reply (prgRamBank s (regAt s.regs.mmc5.prgReg 0).toNat k8 a) s

/-- MMC5.PRG_READ, R932: ROM or RAM, by the window of R930. -/
def execMmc5PrgRead (a : Word) (s : State) : Result :=
  let w := mmc5PrgWin s.regs.mmc5 a
  reply (match w.1 with
    | .rom => prgRomBank s w.2.bank w.2.size a
    | .ram => prgRamBank s w.2.bank w.2.size a) s

/-- MMC5.PRGRAM_WRITE, R933: stored through `prg_reg[0]` where writes are unlocked (R935). -/
def execMmc5PrgramWrite (a : Word) (v : Byte) (s : State) : Result :=
  done (if mmc5RamWritable s.regs.mmc5 then
    prgRamStore s (regAt s.regs.mmc5.prgReg 0).toNat k8 a v else s)

/-- MMC5.PRG_WRITE, R934: stored where the window of R930 shows RAM and writes are unlocked (R935). -/
def execMmc5PrgWrite (a : Word) (v : Byte) (s : State) : Result :=
  let w := mmc5PrgWin s.regs.mmc5 a
  done (if w.1 = .ram ∧ mmc5RamWritable s.regs.mmc5 = true then
    prgRamStore s w.2.bank w.2.size a v else s)

/-- MMC5.CHR_READ, R941: the CHR window of R940. -/
def execMmc5ChrRead (a : ChrAddr) (s : State) : Result :=
  reply (chrWindowByte s (mmc5Chr s.regs.mmc5 a) a) s

/-- MMC5.CHR_WRITE, R942: the CHR window of R940. -/
def execMmc5ChrWrite (a : ChrAddr) (v : Byte) (s : State) : Result :=
  done (chrWindowStore s (mmc5Chr s.regs.mmc5 a) a v)

end Sys2Proof.Machine
end

