-- ==== Sys2Proof/Machine/Simple.lean ====
section
/-!
DEFINITION. The fixed and simple bank-select mappers (41_simple_mappers.md): NROM, UxROM, Camerica,
CNROM, Color Dreams and AxROM. No bus conflicts: a register write stores the CPU's value (decision D14).
-/

namespace Sys2Proof.Machine

open Sys2Proof.Config

/-- NROM.PRG_READ, R510: PRG-ROM in one 32K window. -/
def execNromPrgRead (a : Word) (s : State) : Result :=
  reply (prgRomBank s 0 k32 a) s

/-- NROM.PRG_WRITE, R511: no registers; ROM is never written. -/
def execNromPrgWrite (_a : Word) (_v : Byte) (s : State) : Result :=
  done s

/-- NROM.PRGRAM_READ, R220: the standard PRG-RAM window. -/
def execNromPrgramRead (a : Word) (s : State) : Result :=
  reply (stdPrgRam s a) s

/-- NROM.PRGRAM_WRITE, R221: the standard PRG-RAM window. -/
def execNromPrgramWrite (a : Word) (v : Byte) (s : State) : Result :=
  done (stdPrgRamStore s a v)

/-- NROM.CHR_READ, R230: unbanked CHR. -/
def execNromChrRead (a : ChrAddr) (s : State) : Result :=
  reply (unbankedChr s a) s

/-- NROM.CHR_WRITE, R231: unbanked CHR. -/
def execNromChrWrite (a : ChrAddr) (v : Byte) (s : State) : Result :=
  done (unbankedChrStore s a v)

/-- UXROM.BANK_WRITE, R520: `prg_bank <- value`. -/
def execUxromBankWrite (_a : Word) (v : Byte) (s : State) : Result :=
  done { s with regs.uxrom.prgBank := v }

/-- UXROM.PRG_READ_LOW, R521: the selected 16K bank. -/
def execUxromPrgReadLow (a : Word) (s : State) : Result :=
  reply (prgRomBank s s.regs.uxrom.prgBank.toNat k16 a) s

/-- UXROM.PRG_READ_HIGH, R522: the last 16K bank. -/
def execUxromPrgReadHigh (a : Word) (s : State) : Result :=
  reply (prgRomBank s (prgFromEnd s k16 1) k16 a) s

/-- UXROM.PRGRAM_READ, R220: the standard PRG-RAM window. -/
def execUxromPrgramRead (a : Word) (s : State) : Result :=
  reply (stdPrgRam s a) s

/-- UXROM.PRGRAM_WRITE, R221: the standard PRG-RAM window. -/
def execUxromPrgramWrite (a : Word) (v : Byte) (s : State) : Result :=
  done (stdPrgRamStore s a v)

/-- UXROM.CHR_READ, R230: unbanked CHR. -/
def execUxromChrRead (a : ChrAddr) (s : State) : Result :=
  reply (unbankedChr s a) s

/-- UXROM.CHR_WRITE, R231: unbanked CHR. -/
def execUxromChrWrite (a : ChrAddr) (v : Byte) (s : State) : Result :=
  done (unbankedChrStore s a v)

/-- CAMERICA.BANK_WRITE, R525: `prg_bank <- value`. -/
def execCamericaBankWrite (_a : Word) (v : Byte) (s : State) : Result :=
  done { s with regs.uxrom.prgBank := v }

/-- CAMERICA.PRG_READ_LOW, R526: the selected 16K bank. -/
def execCamericaPrgReadLow (a : Word) (s : State) : Result :=
  reply (prgRomBank s s.regs.uxrom.prgBank.toNat k16 a) s

/-- CAMERICA.PRG_READ_HIGH, R527: the last 16K bank. -/
def execCamericaPrgReadHigh (a : Word) (s : State) : Result :=
  reply (prgRomBank s (prgFromEnd s k16 1) k16 a) s

/-- CAMERICA.PRGRAM_READ, R220: the standard PRG-RAM window. -/
def execCamericaPrgramRead (a : Word) (s : State) : Result :=
  reply (stdPrgRam s a) s

/-- CAMERICA.PRGRAM_WRITE, R221: the standard PRG-RAM window. -/
def execCamericaPrgramWrite (a : Word) (v : Byte) (s : State) : Result :=
  done (stdPrgRamStore s a v)

/-- CAMERICA.CHR_READ, R230: unbanked CHR. -/
def execCamericaChrRead (a : ChrAddr) (s : State) : Result :=
  reply (unbankedChr s a) s

/-- CAMERICA.CHR_WRITE, R231: unbanked CHR. -/
def execCamericaChrWrite (a : ChrAddr) (v : Byte) (s : State) : Result :=
  done (unbankedChrStore s a v)

/-- CNROM.CHR_BANK_WRITE, R530: `chr_bank <- value[1:0]`. -/
def execCnromChrBankWrite (_a : Word) (v : Byte) (s : State) : Result :=
  done { s with regs.cnrom.chrBank := v.extractLsb 1 0 }

/-- CNROM.PRG_READ, R531: PRG-ROM in one 32K window. -/
def execCnromPrgRead (a : Word) (s : State) : Result :=
  reply (prgRomBank s 0 k32 a) s

/-- CNROM.CHR_READ, R532: the selected 8K CHR bank. -/
def execCnromChrRead (a : ChrAddr) (s : State) : Result :=
  reply (chrBank s s.regs.cnrom.chrBank.toNat k8 a) s

/-- CNROM.CHR_WRITE, R533: the selected 8K CHR bank. -/
def execCnromChrWrite (a : ChrAddr) (v : Byte) (s : State) : Result :=
  done (chrStore s s.regs.cnrom.chrBank.toNat k8 a v)

/-- CNROM.PRGRAM_READ, R220: the standard PRG-RAM window. -/
def execCnromPrgramRead (a : Word) (s : State) : Result :=
  reply (stdPrgRam s a) s

/-- CNROM.PRGRAM_WRITE, R221: the standard PRG-RAM window. -/
def execCnromPrgramWrite (a : Word) (v : Byte) (s : State) : Result :=
  done (stdPrgRamStore s a v)

/-- COLOR_DREAMS.BANK_WRITE, R540: `prg_bank <- value[1:0]; chr_bank <- value[7:4]`. -/
def execColorDreamsBankWrite (_a : Word) (v : Byte) (s : State) : Result :=
  done { s with regs.colorDreams.prgBank := v.extractLsb 1 0
                regs.colorDreams.chrBank := v.extractLsb 7 4 }

/-- COLOR_DREAMS.PRG_READ, R541: the selected 32K bank. -/
def execColorDreamsPrgRead (a : Word) (s : State) : Result :=
  reply (prgRomBank s s.regs.colorDreams.prgBank.toNat k32 a) s

/-- COLOR_DREAMS.CHR_READ, R542: the selected 8K CHR bank. -/
def execColorDreamsChrRead (a : ChrAddr) (s : State) : Result :=
  reply (chrBank s s.regs.colorDreams.chrBank.toNat k8 a) s

/-- COLOR_DREAMS.CHR_WRITE, R543: the selected 8K CHR bank. -/
def execColorDreamsChrWrite (a : ChrAddr) (v : Byte) (s : State) : Result :=
  done (chrStore s s.regs.colorDreams.chrBank.toNat k8 a v)

/-- COLOR_DREAMS.PRGRAM_READ, R220: the standard PRG-RAM window. -/
def execColorDreamsPrgramRead (a : Word) (s : State) : Result :=
  reply (stdPrgRam s a) s

/-- COLOR_DREAMS.PRGRAM_WRITE, R221: the standard PRG-RAM window. -/
def execColorDreamsPrgramWrite (a : Word) (v : Byte) (s : State) : Result :=
  done (stdPrgRamStore s a v)

/-- AXROM.BANK_WRITE, R550: `prg_bank <- value[2:0]`, and `value[4]` selects the nametable. -/
def execAxromBankWrite (_a : Word) (v : Byte) (s : State) : Result :=
  done (setMirror (axromMirror (v.extractLsb 4 4)) { s with regs.axrom.prgBank := v.extractLsb 2 0 })

/-- AXROM.PRG_READ, R551: the selected 32K bank. -/
def execAxromPrgRead (a : Word) (s : State) : Result :=
  reply (prgRomBank s s.regs.axrom.prgBank.toNat k32 a) s

/-- AXROM.PRGRAM_READ, R220: the standard PRG-RAM window. -/
def execAxromPrgramRead (a : Word) (s : State) : Result :=
  reply (stdPrgRam s a) s

/-- AXROM.PRGRAM_WRITE, R221: the standard PRG-RAM window. -/
def execAxromPrgramWrite (a : Word) (v : Byte) (s : State) : Result :=
  done (stdPrgRamStore s a v)

/-- AXROM.CHR_READ, R230: unbanked CHR. -/
def execAxromChrRead (a : ChrAddr) (s : State) : Result :=
  reply (unbankedChr s a) s

/-- AXROM.CHR_WRITE, R231: unbanked CHR. -/
def execAxromChrWrite (a : ChrAddr) (v : Byte) (s : State) : Result :=
  done (unbankedChrStore s a v)

end Sys2Proof.Machine
end

