-- ==== Sys2Proof/Machine/Vrc6.lean ====
section
/-!
DEFINITION. VRC6 and VRC6a (46_vrc6_vrc7.md). The two differ in the wiring of address bits 0 and 1
(R1000): the rows' patterns carry the physical addresses, and an index taken from the address is
taken from the normalised one.
-/

namespace Sys2Proof.Machine

open Sys2Proof.Config

/-- VRC6.PRG16, R1001: `prg16 <- value[3:0]`. -/
def execVrc6Prg16 (_a : Word) (v : Byte) (s : State) : Result :=
  done { s with regs.vrc6.prg16 := v.extractLsb 3 0 }

/-- VRC6.AUDIO_9, R1002: `audio[i] <- value`, `i = n[1:0]`. -/
def execVrc6Audio9 (a : Word) (v : Byte) (s : State) : Result :=
  done { s with regs.vrc6.audio := regSet s.regs.vrc6.audio (vrc6Index (normalizeVrc6 a)) v }

/-- VRC6.AUDIO_A0, R1002: `audio[4] <- value`. -/
def execVrc6AudioA0 (_a : Word) (v : Byte) (s : State) : Result :=
  done { s with regs.vrc6.audio := regSet s.regs.vrc6.audio 4 v }

/-- VRC6.AUDIO_A1, R1002: `audio[5] <- value`. -/
def execVrc6AudioA1 (_a : Word) (v : Byte) (s : State) : Result :=
  done { s with regs.vrc6.audio := regSet s.regs.vrc6.audio 5 v }

/-- VRC6.AUDIO_A2, R1002: `audio[6] <- value`. -/
def execVrc6AudioA2 (_a : Word) (v : Byte) (s : State) : Result :=
  done { s with regs.vrc6.audio := regSet s.regs.vrc6.audio 6 v }

/-- VRC6.AUDIO_B0, R1002: `audio[7] <- value`. -/
def execVrc6AudioB0 (_a : Word) (v : Byte) (s : State) : Result :=
  done { s with regs.vrc6.audio := regSet s.regs.vrc6.audio 7 v }

/-- VRC6.AUDIO_B1, R1002: `audio[8] <- value`. -/
def execVrc6AudioB1 (_a : Word) (v : Byte) (s : State) : Result :=
  done { s with regs.vrc6.audio := regSet s.regs.vrc6.audio 8 v }

/-- VRC6.AUDIO_B2, R1002: `audio[9] <- value`. -/
def execVrc6AudioB2 (_a : Word) (v : Byte) (s : State) : Result :=
  done { s with regs.vrc6.audio := regSet s.regs.vrc6.audio 9 v }

/-- VRC6.CTRL, R1003: `ctrl <- value`, and `value[3:2]` selects the mirroring mode (R105). -/
def execVrc6Ctrl (_a : Word) (v : Byte) (s : State) : Result :=
  done (setMirror (vrcMirror (v.extractLsb 3 2)) { s with regs.vrc6.ctrl := v })

/-- VRC6.PRG8, R1004: `prg8 <- value[4:0]`. -/
def execVrc6Prg8 (_a : Word) (v : Byte) (s : State) : Result :=
  done { s with regs.vrc6.prg8 := v.extractLsb 4 0 }

/-- VRC6.CHR_D, R1005: `chr[i] <- value`, `i = n[1:0]`. -/
def execVrc6ChrD (a : Word) (v : Byte) (s : State) : Result :=
  done { s with regs.vrc6.chr := regSet s.regs.vrc6.chr (vrc6Index (normalizeVrc6 a)) v }

/-- VRC6.CHR_E, R1005: `chr[i] <- value`, `i = 4 + n[1:0]`. -/
def execVrc6ChrE (a : Word) (v : Byte) (s : State) : Result :=
  done { s with regs.vrc6.chr := regSet s.regs.vrc6.chr (4 + vrc6Index (normalizeVrc6 a)) v }

/-- VRC6.IRQ_LATCH, R1006: `irq_latch <- value`. -/
def execVrc6IrqLatch (_a : Word) (v : Byte) (s : State) : Result :=
  done { s with regs.vrc6.irq.latch := v }

/-- VRC6.IRQ_CONTROL, R1007: control, the counter loaded where E is set, and the acknowledge of R1212. -/
def execVrc6IrqControl (_a : Word) (v : Byte) (s : State) : Result :=
  done (ackIrq .vrc6 { s with regs.vrc6.irq := vrcControl v s.regs.vrc6.irq })

/-- VRC6.IRQ_ACK, R1008: the acknowledge of R1212, and A copied into E. -/
def execVrc6IrqAck (_a : Word) (_v : Byte) (s : State) : Result :=
  done (ackIrq .vrc6 { s with regs.vrc6.irq := vrcReenable s.regs.vrc6.irq })

/-- VRC6.IGNORED_A003, R1009: no effect. -/
def execVrc6IgnoredA003 (_a : Word) (_v : Byte) (s : State) : Result :=
  done s

/-- VRC6.IGNORED_F003, R1009: no effect. -/
def execVrc6IgnoredF003 (_a : Word) (_v : Byte) (s : State) : Result :=
  done s

/-- VRC6.PRG_READ, R1010: the PRG window; reads are not swapped. -/
def execVrc6PrgRead (a : Word) (s : State) : Result :=
  reply (prgWindowByte s (vrc6Prg s.regs.vrc6 (prgFromEnd s k8 1) a) a) s

/-- VRC6.PRGRAM_READ, R1011: PRG-RAM where `ctrl[7]` enables it, else 0. -/
def execVrc6PrgramRead (a : Word) (s : State) : Result :=
  reply (if s.regs.vrc6.ctrl.extractLsb 7 7 = 1 then prgRamBank s 0 k8 a else 0) s

/-- VRC6.PRGRAM_WRITE, R1014: stored where `ctrl[7]` enables it. -/
def execVrc6PrgramWrite (a : Word) (v : Byte) (s : State) : Result :=
  done (if s.regs.vrc6.ctrl.extractLsb 7 7 = 1 then prgRamStore s 0 k8 a v else s)

/-- VRC6.CHR_READ, R1012: the 1K bank `chr[addr[12:10]]`. -/
def execVrc6ChrRead (a : ChrAddr) (s : State) : Result :=
  reply (chrWindowByte s (vrcChr s.regs.vrc6.chr a) a) s

/-- VRC6.CHR_WRITE, R1013: the 1K bank `chr[addr[12:10]]`. -/
def execVrc6ChrWrite (a : ChrAddr) (v : Byte) (s : State) : Result :=
  done (chrWindowStore s (vrcChr s.regs.vrc6.chr a) a v)

/-- VRC6A.PRG16, R1001: `prg16 <- value[3:0]`. -/
def execVrc6aPrg16 (_a : Word) (v : Byte) (s : State) : Result :=
  done { s with regs.vrc6.prg16 := v.extractLsb 3 0 }

/-- VRC6A.AUDIO_9, R1002: `audio[i] <- value`, `i = n[1:0]`. -/
def execVrc6aAudio9 (a : Word) (v : Byte) (s : State) : Result :=
  done { s with regs.vrc6.audio := regSet s.regs.vrc6.audio (vrc6Index (normalizeVrc6a a)) v }

/-- VRC6A.AUDIO_A0, R1002: `audio[4] <- value`. -/
def execVrc6aAudioA0 (_a : Word) (v : Byte) (s : State) : Result :=
  done { s with regs.vrc6.audio := regSet s.regs.vrc6.audio 4 v }

/-- VRC6A.AUDIO_A1, R1002: `audio[5] <- value`. -/
def execVrc6aAudioA1 (_a : Word) (v : Byte) (s : State) : Result :=
  done { s with regs.vrc6.audio := regSet s.regs.vrc6.audio 5 v }

/-- VRC6A.AUDIO_A2, R1002: `audio[6] <- value`. -/
def execVrc6aAudioA2 (_a : Word) (v : Byte) (s : State) : Result :=
  done { s with regs.vrc6.audio := regSet s.regs.vrc6.audio 6 v }

/-- VRC6A.AUDIO_B0, R1002: `audio[7] <- value`. -/
def execVrc6aAudioB0 (_a : Word) (v : Byte) (s : State) : Result :=
  done { s with regs.vrc6.audio := regSet s.regs.vrc6.audio 7 v }

/-- VRC6A.AUDIO_B1, R1002: `audio[8] <- value`. -/
def execVrc6aAudioB1 (_a : Word) (v : Byte) (s : State) : Result :=
  done { s with regs.vrc6.audio := regSet s.regs.vrc6.audio 8 v }

/-- VRC6A.AUDIO_B2, R1002: `audio[9] <- value`. -/
def execVrc6aAudioB2 (_a : Word) (v : Byte) (s : State) : Result :=
  done { s with regs.vrc6.audio := regSet s.regs.vrc6.audio 9 v }

/-- VRC6A.CTRL, R1003: `ctrl <- value`, and `value[3:2]` selects the mirroring mode (R105). -/
def execVrc6aCtrl (_a : Word) (v : Byte) (s : State) : Result :=
  done (setMirror (vrcMirror (v.extractLsb 3 2)) { s with regs.vrc6.ctrl := v })

/-- VRC6A.PRG8, R1004: `prg8 <- value[4:0]`. -/
def execVrc6aPrg8 (_a : Word) (v : Byte) (s : State) : Result :=
  done { s with regs.vrc6.prg8 := v.extractLsb 4 0 }

/-- VRC6A.CHR_D, R1005: `chr[i] <- value`, `i = n[1:0]`. -/
def execVrc6aChrD (a : Word) (v : Byte) (s : State) : Result :=
  done { s with regs.vrc6.chr := regSet s.regs.vrc6.chr (vrc6Index (normalizeVrc6a a)) v }

/-- VRC6A.CHR_E, R1005: `chr[i] <- value`, `i = 4 + n[1:0]`. -/
def execVrc6aChrE (a : Word) (v : Byte) (s : State) : Result :=
  done { s with regs.vrc6.chr := regSet s.regs.vrc6.chr (4 + vrc6Index (normalizeVrc6a a)) v }

/-- VRC6A.IRQ_LATCH, R1006: `irq_latch <- value`. -/
def execVrc6aIrqLatch (_a : Word) (v : Byte) (s : State) : Result :=
  done { s with regs.vrc6.irq.latch := v }

/-- VRC6A.IRQ_CONTROL, R1007: control, the counter loaded where E is set, and the acknowledge of R1212. -/
def execVrc6aIrqControl (_a : Word) (v : Byte) (s : State) : Result :=
  done (ackIrq .vrc6a { s with regs.vrc6.irq := vrcControl v s.regs.vrc6.irq })

/-- VRC6A.IRQ_ACK, R1008: the acknowledge of R1212, and A copied into E. -/
def execVrc6aIrqAck (_a : Word) (_v : Byte) (s : State) : Result :=
  done (ackIrq .vrc6a { s with regs.vrc6.irq := vrcReenable s.regs.vrc6.irq })

/-- VRC6A.IGNORED_A003, R1009: no effect. -/
def execVrc6aIgnoredA003 (_a : Word) (_v : Byte) (s : State) : Result :=
  done s

/-- VRC6A.IGNORED_F003, R1009: no effect. -/
def execVrc6aIgnoredF003 (_a : Word) (_v : Byte) (s : State) : Result :=
  done s

/-- VRC6A.PRG_READ, R1010: the PRG window; reads are not swapped. -/
def execVrc6aPrgRead (a : Word) (s : State) : Result :=
  reply (prgWindowByte s (vrc6Prg s.regs.vrc6 (prgFromEnd s k8 1) a) a) s

/-- VRC6A.PRGRAM_READ, R1011: PRG-RAM where `ctrl[7]` enables it, else 0. -/
def execVrc6aPrgramRead (a : Word) (s : State) : Result :=
  reply (if s.regs.vrc6.ctrl.extractLsb 7 7 = 1 then prgRamBank s 0 k8 a else 0) s

/-- VRC6A.PRGRAM_WRITE, R1014: stored where `ctrl[7]` enables it. -/
def execVrc6aPrgramWrite (a : Word) (v : Byte) (s : State) : Result :=
  done (if s.regs.vrc6.ctrl.extractLsb 7 7 = 1 then prgRamStore s 0 k8 a v else s)

/-- VRC6A.CHR_READ, R1012: the 1K bank `chr[addr[12:10]]`. -/
def execVrc6aChrRead (a : ChrAddr) (s : State) : Result :=
  reply (chrWindowByte s (vrcChr s.regs.vrc6.chr a) a) s

/-- VRC6A.CHR_WRITE, R1013: the 1K bank `chr[addr[12:10]]`. -/
def execVrc6aChrWrite (a : ChrAddr) (v : Byte) (s : State) : Result :=
  done (chrWindowStore s (vrcChr s.regs.vrc6.chr a) a v)

end Sys2Proof.Machine
end

