-- ==== Sys2Proof/Machine/Vrc7.lean ====
section
/-!
DEFINITION. VRC7 (46_vrc6_vrc7.md). The second register of a pair answers to address bit 3 and to
bit 4 (R1050), each a row of its own.
-/

namespace Sys2Proof.Machine

open Sys2Proof.Config

/-- VRC7.PRG0, R1051: `prg[0] <- value[5:0]`. -/
def execVrc7Prg0 (_a : Word) (v : Byte) (s : State) : Result :=
  done { s with regs.vrc7.prg := regSet s.regs.vrc7.prg 0 (v.extractLsb 5 0) }

/-- VRC7.PRG1, R1052: `prg[1] <- value[5:0]`. -/
def execVrc7Prg1 (_a : Word) (v : Byte) (s : State) : Result :=
  done { s with regs.vrc7.prg := regSet s.regs.vrc7.prg 1 (v.extractLsb 5 0) }

/-- VRC7.PRG1_A4, R1052: `prg[1] <- value[5:0]`. -/
def execVrc7Prg1A4 (_a : Word) (v : Byte) (s : State) : Result :=
  done { s with regs.vrc7.prg := regSet s.regs.vrc7.prg 1 (v.extractLsb 5 0) }

/-- VRC7.PRG2, R1053: `prg[2] <- value[5:0]`. -/
def execVrc7Prg2 (_a : Word) (v : Byte) (s : State) : Result :=
  done { s with regs.vrc7.prg := regSet s.regs.vrc7.prg 2 (v.extractLsb 5 0) }

/-- VRC7.IGNORED_WRITE, R1066: no effect. -/
def execVrc7IgnoredWrite (_a : Word) (_v : Byte) (s : State) : Result :=
  done s

/-- VRC7.AUDIO_INDEX, R1054: `audio_index <- value`. -/
def execVrc7AudioIndex (_a : Word) (v : Byte) (s : State) : Result :=
  done { s with regs.vrc7.audioIndex := v }

/-- VRC7.AUDIO_DATA, R1055: `audio_data[audio_index[5:0]] <- value`. -/
def execVrc7AudioData (_a : Word) (v : Byte) (s : State) : Result :=
  done { s with
    regs.vrc7.audioData :=
      regSet s.regs.vrc7.audioData (s.regs.vrc7.audioIndex.extractLsb 5 0).toNat v }

/-- VRC7.CHR_A_LO, R1056: `chr[0] <- value`. -/
def execVrc7ChrALo (_a : Word) (v : Byte) (s : State) : Result :=
  done { s with regs.vrc7.chr := regSet s.regs.vrc7.chr 0 v }

/-- VRC7.CHR_A_HI, R1056: `chr[1] <- value`. -/
def execVrc7ChrAHi (_a : Word) (v : Byte) (s : State) : Result :=
  done { s with regs.vrc7.chr := regSet s.regs.vrc7.chr 1 v }

/-- VRC7.CHR_A_HI_A4, R1056: `chr[1] <- value`. -/
def execVrc7ChrAHiA4 (_a : Word) (v : Byte) (s : State) : Result :=
  done { s with regs.vrc7.chr := regSet s.regs.vrc7.chr 1 v }

/-- VRC7.CHR_B_LO, R1056: `chr[2] <- value`. -/
def execVrc7ChrBLo (_a : Word) (v : Byte) (s : State) : Result :=
  done { s with regs.vrc7.chr := regSet s.regs.vrc7.chr 2 v }

/-- VRC7.CHR_B_HI, R1056: `chr[3] <- value`. -/
def execVrc7ChrBHi (_a : Word) (v : Byte) (s : State) : Result :=
  done { s with regs.vrc7.chr := regSet s.regs.vrc7.chr 3 v }

/-- VRC7.CHR_B_HI_A4, R1056: `chr[3] <- value`. -/
def execVrc7ChrBHiA4 (_a : Word) (v : Byte) (s : State) : Result :=
  done { s with regs.vrc7.chr := regSet s.regs.vrc7.chr 3 v }

/-- VRC7.CHR_C_LO, R1056: `chr[4] <- value`. -/
def execVrc7ChrCLo (_a : Word) (v : Byte) (s : State) : Result :=
  done { s with regs.vrc7.chr := regSet s.regs.vrc7.chr 4 v }

/-- VRC7.CHR_C_HI, R1056: `chr[5] <- value`. -/
def execVrc7ChrCHi (_a : Word) (v : Byte) (s : State) : Result :=
  done { s with regs.vrc7.chr := regSet s.regs.vrc7.chr 5 v }

/-- VRC7.CHR_C_HI_A4, R1056: `chr[5] <- value`. -/
def execVrc7ChrCHiA4 (_a : Word) (v : Byte) (s : State) : Result :=
  done { s with regs.vrc7.chr := regSet s.regs.vrc7.chr 5 v }

/-- VRC7.CHR_D_LO, R1056: `chr[6] <- value`. -/
def execVrc7ChrDLo (_a : Word) (v : Byte) (s : State) : Result :=
  done { s with regs.vrc7.chr := regSet s.regs.vrc7.chr 6 v }

/-- VRC7.CHR_D_HI, R1056: `chr[7] <- value`. -/
def execVrc7ChrDHi (_a : Word) (v : Byte) (s : State) : Result :=
  done { s with regs.vrc7.chr := regSet s.regs.vrc7.chr 7 v }

/-- VRC7.CHR_D_HI_A4, R1056: `chr[7] <- value`. -/
def execVrc7ChrDHiA4 (_a : Word) (v : Byte) (s : State) : Result :=
  done { s with regs.vrc7.chr := regSet s.regs.vrc7.chr 7 v }

/-- VRC7.CTRL, R1057: `ctrl <- value`, and `value[1:0]` selects the mirroring mode (R105). -/
def execVrc7Ctrl (_a : Word) (v : Byte) (s : State) : Result :=
  done (setMirror (vrcMirror (v.extractLsb 1 0)) { s with regs.vrc7.ctrl := v })

/-- VRC7.IRQ_LATCH, R1058: `irq_latch <- value`. -/
def execVrc7IrqLatch (_a : Word) (v : Byte) (s : State) : Result :=
  done { s with regs.vrc7.irq.latch := v }

/-- VRC7.IRQ_LATCH_A4, R1058: `irq_latch <- value`. -/
def execVrc7IrqLatchA4 (_a : Word) (v : Byte) (s : State) : Result :=
  done { s with regs.vrc7.irq.latch := v }

/-- VRC7.IRQ_CONTROL, R1059: as R1007. -/
def execVrc7IrqControl (_a : Word) (v : Byte) (s : State) : Result :=
  done (ackIrq .vrc7 { s with regs.vrc7.irq := vrcControl v s.regs.vrc7.irq })

/-- VRC7.IRQ_ACK, R1060: as R1008. -/
def execVrc7IrqAck (_a : Word) (_v : Byte) (s : State) : Result :=
  done (ackIrq .vrc7 { s with regs.vrc7.irq := vrcReenable s.regs.vrc7.irq })

/-- VRC7.IRQ_ACK_A4, R1060: as R1008. -/
def execVrc7IrqAckA4 (_a : Word) (_v : Byte) (s : State) : Result :=
  done (ackIrq .vrc7 { s with regs.vrc7.irq := vrcReenable s.regs.vrc7.irq })

/-- VRC7.PRG_READ, R1061: the PRG window. -/
def execVrc7PrgRead (a : Word) (s : State) : Result :=
  reply (prgWindowByte s (vrc7Prg s.regs.vrc7 (prgFromEnd s k8 1) a) a) s

/-- VRC7.PRGRAM_READ, R1062: PRG-RAM where `ctrl[7]` enables it, else 0. -/
def execVrc7PrgramRead (a : Word) (s : State) : Result :=
  reply (if s.regs.vrc7.ctrl.extractLsb 7 7 = 1 then prgRamBank s 0 k8 a else 0) s

/-- VRC7.PRGRAM_WRITE, R1065: stored where `ctrl[7]` enables it. -/
def execVrc7PrgramWrite (a : Word) (v : Byte) (s : State) : Result :=
  done (if s.regs.vrc7.ctrl.extractLsb 7 7 = 1 then prgRamStore s 0 k8 a v else s)

/-- VRC7.CHR_READ, R1063: the 1K bank `chr[addr[12:10]]`. -/
def execVrc7ChrRead (a : ChrAddr) (s : State) : Result :=
  reply (chrWindowByte s (vrcChr s.regs.vrc7.chr a) a) s

/-- VRC7.CHR_WRITE, R1064: the 1K bank `chr[addr[12:10]]`. -/
def execVrc7ChrWrite (a : ChrAddr) (v : Byte) (s : State) : Result :=
  done (chrWindowStore s (vrcChr s.regs.vrc7.chr a) a v)

end Sys2Proof.Machine
end

