-- ==== Sys2Proof/Machine/Dispatch.lean ====
section
/-!
DEFINITION. The meaning of every instruction: one arm per row of spec/opcode_table.json.
-/

namespace Sys2Proof.Machine

def exec (i : Instr) (s : State) : Host.Outcome State Fault Refusal :=
  match i with
  | .nromPrgRead a => Sys2Proof.Machine.execNromPrgRead a s
  | .nromPrgWrite a v => Sys2Proof.Machine.execNromPrgWrite a v s
  | .nromPrgramRead a => Sys2Proof.Machine.execNromPrgramRead a s
  | .nromPrgramWrite a v => Sys2Proof.Machine.execNromPrgramWrite a v s
  | .nromChrRead a => Sys2Proof.Machine.execNromChrRead a s
  | .nromChrWrite a v => Sys2Proof.Machine.execNromChrWrite a v s
  | .uxromBankWrite a v => Sys2Proof.Machine.execUxromBankWrite a v s
  | .uxromPrgReadLow a => Sys2Proof.Machine.execUxromPrgReadLow a s
  | .uxromPrgReadHigh a => Sys2Proof.Machine.execUxromPrgReadHigh a s
  | .uxromPrgramRead a => Sys2Proof.Machine.execUxromPrgramRead a s
  | .uxromPrgramWrite a v => Sys2Proof.Machine.execUxromPrgramWrite a v s
  | .uxromChrRead a => Sys2Proof.Machine.execUxromChrRead a s
  | .uxromChrWrite a v => Sys2Proof.Machine.execUxromChrWrite a v s
  | .camericaBankWrite a v => Sys2Proof.Machine.execCamericaBankWrite a v s
  | .camericaPrgReadLow a => Sys2Proof.Machine.execCamericaPrgReadLow a s
  | .camericaPrgReadHigh a => Sys2Proof.Machine.execCamericaPrgReadHigh a s
  | .camericaPrgramRead a => Sys2Proof.Machine.execCamericaPrgramRead a s
  | .camericaPrgramWrite a v => Sys2Proof.Machine.execCamericaPrgramWrite a v s
  | .camericaChrRead a => Sys2Proof.Machine.execCamericaChrRead a s
  | .camericaChrWrite a v => Sys2Proof.Machine.execCamericaChrWrite a v s
  | .cnromChrBankWrite a v => Sys2Proof.Machine.execCnromChrBankWrite a v s
  | .cnromPrgRead a => Sys2Proof.Machine.execCnromPrgRead a s
  | .cnromChrRead a => Sys2Proof.Machine.execCnromChrRead a s
  | .cnromChrWrite a v => Sys2Proof.Machine.execCnromChrWrite a v s
  | .cnromPrgramRead a => Sys2Proof.Machine.execCnromPrgramRead a s
  | .cnromPrgramWrite a v => Sys2Proof.Machine.execCnromPrgramWrite a v s
  | .colorDreamsBankWrite a v => Sys2Proof.Machine.execColorDreamsBankWrite a v s
  | .colorDreamsPrgRead a => Sys2Proof.Machine.execColorDreamsPrgRead a s
  | .colorDreamsChrRead a => Sys2Proof.Machine.execColorDreamsChrRead a s
  | .colorDreamsChrWrite a v => Sys2Proof.Machine.execColorDreamsChrWrite a v s
  | .colorDreamsPrgramRead a => Sys2Proof.Machine.execColorDreamsPrgramRead a s
  | .colorDreamsPrgramWrite a v => Sys2Proof.Machine.execColorDreamsPrgramWrite a v s
  | .axromBankWrite a v => Sys2Proof.Machine.execAxromBankWrite a v s
  | .axromPrgRead a => Sys2Proof.Machine.execAxromPrgRead a s
  | .axromPrgramRead a => Sys2Proof.Machine.execAxromPrgramRead a s
  | .axromPrgramWrite a v => Sys2Proof.Machine.execAxromPrgramWrite a v s
  | .axromChrRead a => Sys2Proof.Machine.execAxromChrRead a s
  | .axromChrWrite a v => Sys2Proof.Machine.execAxromChrWrite a v s
  | .mmc1ResetWrite a v => Sys2Proof.Machine.execMmc1ResetWrite a v s
  | .mmc1WriteControl a v => Sys2Proof.Machine.execMmc1WriteControl a v s
  | .mmc1WriteChr0 a v => Sys2Proof.Machine.execMmc1WriteChr0 a v s
  | .mmc1WriteChr1 a v => Sys2Proof.Machine.execMmc1WriteChr1 a v s
  | .mmc1WritePrg a v => Sys2Proof.Machine.execMmc1WritePrg a v s
  | .mmc1PrgReadLow a => Sys2Proof.Machine.execMmc1PrgReadLow a s
  | .mmc1PrgReadHigh a => Sys2Proof.Machine.execMmc1PrgReadHigh a s
  | .mmc1ChrRead a => Sys2Proof.Machine.execMmc1ChrRead a s
  | .mmc1ChrWrite a v => Sys2Proof.Machine.execMmc1ChrWrite a v s
  | .mmc1PrgramRead a => Sys2Proof.Machine.execMmc1PrgramRead a s
  | .mmc1PrgramWrite a v => Sys2Proof.Machine.execMmc1PrgramWrite a v s
  | .mmc3BankSelect a v => Sys2Proof.Machine.execMmc3BankSelect a v s
  | .mmc3BankData a v => Sys2Proof.Machine.execMmc3BankData a v s
  | .mmc3Mirroring a v => Sys2Proof.Machine.execMmc3Mirroring a v s
  | .mmc3PrgRamProtect a v => Sys2Proof.Machine.execMmc3PrgRamProtect a v s
  | .mmc3IrqLatch a v => Sys2Proof.Machine.execMmc3IrqLatch a v s
  | .mmc3IrqReload a v => Sys2Proof.Machine.execMmc3IrqReload a v s
  | .mmc3IrqDisable a v => Sys2Proof.Machine.execMmc3IrqDisable a v s
  | .mmc3IrqEnable a v => Sys2Proof.Machine.execMmc3IrqEnable a v s
  | .mmc3PrgRead a => Sys2Proof.Machine.execMmc3PrgRead a s
  | .mmc3PrgramRead a => Sys2Proof.Machine.execMmc3PrgramRead a s
  | .mmc3PrgramWrite a v => Sys2Proof.Machine.execMmc3PrgramWrite a v s
  | .mmc3ChrRead a => Sys2Proof.Machine.execMmc3ChrRead a s
  | .mmc3ChrWrite a v => Sys2Proof.Machine.execMmc3ChrWrite a v s
  | .mmc2PrgBank a v => Sys2Proof.Machine.execMmc2PrgBank a v s
  | .mmc2ChrFd0 a v => Sys2Proof.Machine.execMmc2ChrFd0 a v s
  | .mmc2ChrFe0 a v => Sys2Proof.Machine.execMmc2ChrFe0 a v s
  | .mmc2ChrFd1 a v => Sys2Proof.Machine.execMmc2ChrFd1 a v s
  | .mmc2ChrFe1 a v => Sys2Proof.Machine.execMmc2ChrFe1 a v s
  | .mmc2Mirroring a v => Sys2Proof.Machine.execMmc2Mirroring a v s
  | .mmc2IgnoredWrite a v => Sys2Proof.Machine.execMmc2IgnoredWrite a v s
  | .mmc2PrgRead a => Sys2Proof.Machine.execMmc2PrgRead a s
  | .mmc2ChrRead a => Sys2Proof.Machine.execMmc2ChrRead a s
  | .mmc2ChrWrite a v => Sys2Proof.Machine.execMmc2ChrWrite a v s
  | .mmc2PrgramRead a => Sys2Proof.Machine.execMmc2PrgramRead a s
  | .mmc2PrgramWrite a v => Sys2Proof.Machine.execMmc2PrgramWrite a v s
  | .mmc4PrgBank a v => Sys2Proof.Machine.execMmc4PrgBank a v s
  | .mmc4ChrFd0 a v => Sys2Proof.Machine.execMmc4ChrFd0 a v s
  | .mmc4ChrFe0 a v => Sys2Proof.Machine.execMmc4ChrFe0 a v s
  | .mmc4ChrFd1 a v => Sys2Proof.Machine.execMmc4ChrFd1 a v s
  | .mmc4ChrFe1 a v => Sys2Proof.Machine.execMmc4ChrFe1 a v s
  | .mmc4Mirroring a v => Sys2Proof.Machine.execMmc4Mirroring a v s
  | .mmc4IgnoredWrite a v => Sys2Proof.Machine.execMmc4IgnoredWrite a v s
  | .mmc4PrgRead a => Sys2Proof.Machine.execMmc4PrgRead a s
  | .mmc4ChrRead a => Sys2Proof.Machine.execMmc4ChrRead a s
  | .mmc4ChrWrite a v => Sys2Proof.Machine.execMmc4ChrWrite a v s
  | .mmc4PrgramRead a => Sys2Proof.Machine.execMmc4PrgramRead a s
  | .mmc4PrgramWrite a v => Sys2Proof.Machine.execMmc4PrgramWrite a v s
  | .mmc5AudioWrite a v => Sys2Proof.Machine.execMmc5AudioWrite a v s
  | .mmc5AudioWriteHi a v => Sys2Proof.Machine.execMmc5AudioWriteHi a v s
  | .mmc5AudioWriteTop a v => Sys2Proof.Machine.execMmc5AudioWriteTop a v s
  | .mmc5PrgMode a v => Sys2Proof.Machine.execMmc5PrgMode a v s
  | .mmc5ChrMode a v => Sys2Proof.Machine.execMmc5ChrMode a v s
  | .mmc5RamProtect1 a v => Sys2Proof.Machine.execMmc5RamProtect1 a v s
  | .mmc5RamProtect2 a v => Sys2Proof.Machine.execMmc5RamProtect2 a v s
  | .mmc5ExramMode a v => Sys2Proof.Machine.execMmc5ExramMode a v s
  | .mmc5NtMap a v => Sys2Proof.Machine.execMmc5NtMap a v s
  | .mmc5FillTile a v => Sys2Proof.Machine.execMmc5FillTile a v s
  | .mmc5FillAttr a v => Sys2Proof.Machine.execMmc5FillAttr a v s
  | .mmc5PrgRamBank a v => Sys2Proof.Machine.execMmc5PrgRamBank a v s
  | .mmc5ChrUpper a v => Sys2Proof.Machine.execMmc5ChrUpper a v s
  | .mmc5IrqTarget a v => Sys2Proof.Machine.execMmc5IrqTarget a v s
  | .mmc5IrqEnable a v => Sys2Proof.Machine.execMmc5IrqEnable a v s
  | .mmc5MulA a v => Sys2Proof.Machine.execMmc5MulA a v s
  | .mmc5MulB a v => Sys2Proof.Machine.execMmc5MulB a v s
  | .mmc5PrgBank a v => Sys2Proof.Machine.execMmc5PrgBank a v s
  | .mmc5ChrBank a v => Sys2Proof.Machine.execMmc5ChrBank a v s
  | .mmc5ChrBankB a v => Sys2Proof.Machine.execMmc5ChrBankB a v s
  | .mmc5IrqStatus a => Sys2Proof.Machine.execMmc5IrqStatus a s
  | .mmc5MulLo a => Sys2Proof.Machine.execMmc5MulLo a s
  | .mmc5MulHi a => Sys2Proof.Machine.execMmc5MulHi a s
  | .mmc5ExramRead a => Sys2Proof.Machine.execMmc5ExramRead a s
  | .mmc5ExramWrite a v => Sys2Proof.Machine.execMmc5ExramWrite a v s
  | .mmc5PrgramRead a => Sys2Proof.Machine.execMmc5PrgramRead a s
  | .mmc5PrgRead a => Sys2Proof.Machine.execMmc5PrgRead a s
  | .mmc5PrgramWrite a v => Sys2Proof.Machine.execMmc5PrgramWrite a v s
  | .mmc5PrgWrite a v => Sys2Proof.Machine.execMmc5PrgWrite a v s
  | .mmc5ChrRead a => Sys2Proof.Machine.execMmc5ChrRead a s
  | .mmc5ChrWrite a v => Sys2Proof.Machine.execMmc5ChrWrite a v s
  | .vrc6Prg16 a v => Sys2Proof.Machine.execVrc6Prg16 a v s
  | .vrc6Audio9 a v => Sys2Proof.Machine.execVrc6Audio9 a v s
  | .vrc6AudioA0 a v => Sys2Proof.Machine.execVrc6AudioA0 a v s
  | .vrc6AudioA1 a v => Sys2Proof.Machine.execVrc6AudioA1 a v s
  | .vrc6AudioA2 a v => Sys2Proof.Machine.execVrc6AudioA2 a v s
  | .vrc6AudioB0 a v => Sys2Proof.Machine.execVrc6AudioB0 a v s
  | .vrc6AudioB1 a v => Sys2Proof.Machine.execVrc6AudioB1 a v s
  | .vrc6AudioB2 a v => Sys2Proof.Machine.execVrc6AudioB2 a v s
  | .vrc6Ctrl a v => Sys2Proof.Machine.execVrc6Ctrl a v s
  | .vrc6Prg8 a v => Sys2Proof.Machine.execVrc6Prg8 a v s
  | .vrc6ChrD a v => Sys2Proof.Machine.execVrc6ChrD a v s
  | .vrc6ChrE a v => Sys2Proof.Machine.execVrc6ChrE a v s
  | .vrc6IrqLatch a v => Sys2Proof.Machine.execVrc6IrqLatch a v s
  | .vrc6IrqControl a v => Sys2Proof.Machine.execVrc6IrqControl a v s
  | .vrc6IrqAck a v => Sys2Proof.Machine.execVrc6IrqAck a v s
  | .vrc6IgnoredA003 a v => Sys2Proof.Machine.execVrc6IgnoredA003 a v s
  | .vrc6IgnoredF003 a v => Sys2Proof.Machine.execVrc6IgnoredF003 a v s
  | .vrc6PrgRead a => Sys2Proof.Machine.execVrc6PrgRead a s
  | .vrc6PrgramRead a => Sys2Proof.Machine.execVrc6PrgramRead a s
  | .vrc6PrgramWrite a v => Sys2Proof.Machine.execVrc6PrgramWrite a v s
  | .vrc6ChrRead a => Sys2Proof.Machine.execVrc6ChrRead a s
  | .vrc6ChrWrite a v => Sys2Proof.Machine.execVrc6ChrWrite a v s
  | .vrc6aPrg16 a v => Sys2Proof.Machine.execVrc6aPrg16 a v s
  | .vrc6aAudio9 a v => Sys2Proof.Machine.execVrc6aAudio9 a v s
  | .vrc6aAudioA0 a v => Sys2Proof.Machine.execVrc6aAudioA0 a v s
  | .vrc6aAudioA1 a v => Sys2Proof.Machine.execVrc6aAudioA1 a v s
  | .vrc6aAudioA2 a v => Sys2Proof.Machine.execVrc6aAudioA2 a v s
  | .vrc6aAudioB0 a v => Sys2Proof.Machine.execVrc6aAudioB0 a v s
  | .vrc6aAudioB1 a v => Sys2Proof.Machine.execVrc6aAudioB1 a v s
  | .vrc6aAudioB2 a v => Sys2Proof.Machine.execVrc6aAudioB2 a v s
  | .vrc6aCtrl a v => Sys2Proof.Machine.execVrc6aCtrl a v s
  | .vrc6aPrg8 a v => Sys2Proof.Machine.execVrc6aPrg8 a v s
  | .vrc6aChrD a v => Sys2Proof.Machine.execVrc6aChrD a v s
  | .vrc6aChrE a v => Sys2Proof.Machine.execVrc6aChrE a v s
  | .vrc6aIrqLatch a v => Sys2Proof.Machine.execVrc6aIrqLatch a v s
  | .vrc6aIrqControl a v => Sys2Proof.Machine.execVrc6aIrqControl a v s
  | .vrc6aIrqAck a v => Sys2Proof.Machine.execVrc6aIrqAck a v s
  | .vrc6aIgnoredA003 a v => Sys2Proof.Machine.execVrc6aIgnoredA003 a v s
  | .vrc6aIgnoredF003 a v => Sys2Proof.Machine.execVrc6aIgnoredF003 a v s
  | .vrc6aPrgRead a => Sys2Proof.Machine.execVrc6aPrgRead a s
  | .vrc6aPrgramRead a => Sys2Proof.Machine.execVrc6aPrgramRead a s
  | .vrc6aPrgramWrite a v => Sys2Proof.Machine.execVrc6aPrgramWrite a v s
  | .vrc6aChrRead a => Sys2Proof.Machine.execVrc6aChrRead a s
  | .vrc6aChrWrite a v => Sys2Proof.Machine.execVrc6aChrWrite a v s
  | .vrc7Prg0 a v => Sys2Proof.Machine.execVrc7Prg0 a v s
  | .vrc7Prg1 a v => Sys2Proof.Machine.execVrc7Prg1 a v s
  | .vrc7Prg1A4 a v => Sys2Proof.Machine.execVrc7Prg1A4 a v s
  | .vrc7Prg2 a v => Sys2Proof.Machine.execVrc7Prg2 a v s
  | .vrc7IgnoredWrite a v => Sys2Proof.Machine.execVrc7IgnoredWrite a v s
  | .vrc7AudioIndex a v => Sys2Proof.Machine.execVrc7AudioIndex a v s
  | .vrc7AudioData a v => Sys2Proof.Machine.execVrc7AudioData a v s
  | .vrc7ChrALo a v => Sys2Proof.Machine.execVrc7ChrALo a v s
  | .vrc7ChrAHi a v => Sys2Proof.Machine.execVrc7ChrAHi a v s
  | .vrc7ChrAHiA4 a v => Sys2Proof.Machine.execVrc7ChrAHiA4 a v s
  | .vrc7ChrBLo a v => Sys2Proof.Machine.execVrc7ChrBLo a v s
  | .vrc7ChrBHi a v => Sys2Proof.Machine.execVrc7ChrBHi a v s
  | .vrc7ChrBHiA4 a v => Sys2Proof.Machine.execVrc7ChrBHiA4 a v s
  | .vrc7ChrCLo a v => Sys2Proof.Machine.execVrc7ChrCLo a v s
  | .vrc7ChrCHi a v => Sys2Proof.Machine.execVrc7ChrCHi a v s
  | .vrc7ChrCHiA4 a v => Sys2Proof.Machine.execVrc7ChrCHiA4 a v s
  | .vrc7ChrDLo a v => Sys2Proof.Machine.execVrc7ChrDLo a v s
  | .vrc7ChrDHi a v => Sys2Proof.Machine.execVrc7ChrDHi a v s
  | .vrc7ChrDHiA4 a v => Sys2Proof.Machine.execVrc7ChrDHiA4 a v s
  | .vrc7Ctrl a v => Sys2Proof.Machine.execVrc7Ctrl a v s
  | .vrc7IrqLatch a v => Sys2Proof.Machine.execVrc7IrqLatch a v s
  | .vrc7IrqLatchA4 a v => Sys2Proof.Machine.execVrc7IrqLatchA4 a v s
  | .vrc7IrqControl a v => Sys2Proof.Machine.execVrc7IrqControl a v s
  | .vrc7IrqAck a v => Sys2Proof.Machine.execVrc7IrqAck a v s
  | .vrc7IrqAckA4 a v => Sys2Proof.Machine.execVrc7IrqAckA4 a v s
  | .vrc7PrgRead a => Sys2Proof.Machine.execVrc7PrgRead a s
  | .vrc7PrgramRead a => Sys2Proof.Machine.execVrc7PrgramRead a s
  | .vrc7PrgramWrite a v => Sys2Proof.Machine.execVrc7PrgramWrite a v s
  | .vrc7ChrRead a => Sys2Proof.Machine.execVrc7ChrRead a s
  | .vrc7ChrWrite a v => Sys2Proof.Machine.execVrc7ChrWrite a v s
  | .fdsRamRead6 a => Sys2Proof.Machine.execFdsRamRead6 a s
  | .fdsRamRead8 a => Sys2Proof.Machine.execFdsRamRead8 a s
  | .fdsRamReadC a => Sys2Proof.Machine.execFdsRamReadC a s
  | .fdsRamWrite6 a v => Sys2Proof.Machine.execFdsRamWrite6 a v s
  | .fdsRamWrite8 a v => Sys2Proof.Machine.execFdsRamWrite8 a v s
  | .fdsRamWriteC a v => Sys2Proof.Machine.execFdsRamWriteC a v s
  | .fdsBiosRead a => Sys2Proof.Machine.execFdsBiosRead a s
  | .fdsBiosWrite a v => Sys2Proof.Machine.execFdsBiosWrite a v s
  | .fdsTimerReloadLo a v => Sys2Proof.Machine.execFdsTimerReloadLo a v s
  | .fdsTimerReloadHi a v => Sys2Proof.Machine.execFdsTimerReloadHi a v s
  | .fdsTimerCtrl a v => Sys2Proof.Machine.execFdsTimerCtrl a v s
  | .fdsMasterIo a v => Sys2Proof.Machine.execFdsMasterIo a v s
  | .fdsWriteData a v => Sys2Proof.Machine.execFdsWriteData a v s
  | .fdsControl a v => Sys2Proof.Machine.execFdsControl a v s
  | .fdsExtOut a v => Sys2Proof.Machine.execFdsExtOut a v s
  | .fdsDiskStatus a => Sys2Proof.Machine.execFdsDiskStatus a s
  | .fdsReadData a => Sys2Proof.Machine.execFdsReadData a s
  | .fdsDriveStatus a => Sys2Proof.Machine.execFdsDriveStatus a s
  | .fdsExtIn a => Sys2Proof.Machine.execFdsExtIn a s
  | .fdsWaveWrite a v => Sys2Proof.Machine.execFdsWaveWrite a v s
  | .fdsWaveRead a => Sys2Proof.Machine.execFdsWaveRead a s
  | .fdsAudioWrite a v => Sys2Proof.Machine.execFdsAudioWrite a v s
  | .fdsAudioWriteHi a v => Sys2Proof.Machine.execFdsAudioWriteHi a v s
  | .fdsAudioWriteTop a v => Sys2Proof.Machine.execFdsAudioWriteTop a v s
  | .fdsChrRead a => Sys2Proof.Machine.execFdsChrRead a s
  | .fdsChrWrite a v => Sys2Proof.Machine.execFdsChrWrite a v s

end Sys2Proof.Machine
end

