-- ==== Sys2Proof/Machine/Serve.lean ====
section
/-!
DEFINITION. Serving one transaction (30_encoding.md R300, R301; 40_facade.md R410 to R413): a bus
transaction is decoded with the active kind and its instruction executed, or answered as
unmapped; a control transaction has its own operation.
-/

namespace Sys2Proof.Machine

/-- A bus transaction no row decodes: a read returns 0, a write changes nothing (R222, R320, R405). -/
def unmapped (b : Bus) (s : State) : Result :=
  match b with
  | .cpuRead _ => reply 0 s
  | .chrRead _ => reply 0 s
  | .cpuWrite _ _ => done s
  | .chrWrite _ _ => done s

/-- One bus transaction on the cartridge (R410 to R413). -/
def serveBus (b : Bus) (s : State) : Result :=
  match decode s.image.kind b with
  | .ok i => exec i s
  | .error _ => unmapped b s

/-- A transaction on an existing cartridge. -/
def serve (r : Request) (s : State) : Result :=
  match r with
  | .bus b => serveBus b s
  | .scanline n => notifyScanline n s
  | .reset => resetCartridge s
  | .irqState => irqState s
  | .irqClear => irqClear s
  | .construct m => construct m s
  | .hostSave ioOk => hostSave ioOk s
  | .hostLoad d => hostLoad d s
  | .shutdown => shutdown s

/-- A transaction: construction needs no cartridge, every other one does (R402, R418). -/
def handle (r : Request) (s : State) : Result :=
  match r with
  | .construct m => construct m s
  | .bus b => if s.present then serve (.bus b) s else .fault .noCartridge
  | .scanline n => if s.present then serve (.scanline n) s else .fault .noCartridge
  | .reset => if s.present then serve .reset s else .fault .noCartridge
  | .irqState => if s.present then serve .irqState s else .fault .noCartridge
  | .irqClear => if s.present then serve .irqClear s else .fault .noCartridge
  | .hostSave ioOk => if s.present then serve (.hostSave ioOk) s else .fault .noCartridge
  | .hostLoad d => if s.present then serve (.hostLoad d) s else .fault .noCartridge
  | .shutdown => if s.present then serve .shutdown s else .fault .noCartridge

/-- The next step: the oldest pending request is served; with none pending the block does nothing
on its own (R101, R240, log entry 5). -/
def serveNext (s : State) : Result :=
  match s.requests with
  | [] => .next s
  | r :: rest => handle r { s with requests := rest }

/-! ## The host's word interface (log entries 11 and 12) -/

/-- The least cartridge of a kind: one byte 0 of PRG-ROM, no CHR-ROM, no PRG-RAM but the FDS's. -/
def leastMetadata (k : Kind) : Metadata :=
  { mapperNumber := mapperNumberOf k, prgRom := Memory.zeroed 1, chrRom := Memory.zeroed 0,
    prgRamSize := 0, hasBattery := false, mirrorDefault := .horizontal, fdsTicks := 1,
    allocOk := true }

/-- A state with a cartridge of the kind: itself where one is inserted, else the state with the
least one constructed. -/
def withKind (k : Kind) (s : State) : State :=
  if s.present = true ∧ s.image.kind = k then s
  else { newCartridge k (leastMetadata k) s with answer := s.answer }

/-- The transaction of a table word put before all pending requests, with a cartridge of its kind;
a word that names no transaction changes nothing. -/
def placeWord (s : State) (nbits w : Nat) : State :=
  match targetOfBytes (tableBytes nbits w) with
  | .ok ((k, b), _) => { withKind k s with requests := .bus b :: s.requests }
  | .error _ => s

end Sys2Proof.Machine
end

