-- ==== Sys2Proof/Machine/Step.lean ====
section
/-!
DEFINITION. One step of the machine, and the place where its next instruction is put. The block
has no program counter (10_state.md R101): its next instruction is the oldest pending request.
-/

namespace Sys2Proof.Machine

/-- One atomic step (R205, R300): the oldest pending transaction. -/
def step (s : State) : Host.Outcome State Fault Refusal := serveNext s

/-- The state whose very next step runs the instruction of a table word (log entry 12). -/
def State.withFetchWord (s : State) (nbits w : Nat) : State := placeWord s nbits w

end Sys2Proof.Machine
end

