-- ==== Sys2Proof/Safety.lean ====
section
/-!
DEFINITION. The terms in which claims about the machine are stated: the invariant every step
keeps, what it is for a memory to have one byte stored, and the kinds a transaction belongs to.
-/

namespace Sys2Proof

open Sys2Proof.Machine Sys2Proof.Config

/-- The invariant of the machine. -/
structure Inv (s : State) : Prop where
  /-- Every memory is in canonical form (log entry 9). -/
  prgRom : s.image.prgRom.wf
  chrRom : s.image.chrRom.wf
  prgRam : s.prgRam.wf
  chrRam : s.chrRam.wf
  exram  : s.exram.wf
  /-- "`prg_rom` is always present and non-empty" (R11, R403). -/
  prgRomPresent : s.present = true → s.image.prgRom.size ≠ 0
  /-- `chr_ram` has 8192 bytes if there is no CHR-ROM and is absent otherwise (R14, R104). -/
  chrOne : s.present = true →
    s.chrRam.size = if s.image.chrRom.size = 0 then chrRamSize else 0
  /-- MMC5 has its ExRAM, no other kind has one (R17, R403). -/
  exramOne : s.present = true → s.exram.size = if s.image.kind = .mmc5 then exramSize else 0
  /-- The FDS's onboard RAM fills its window (R1101). -/
  fdsRam : s.present = true → s.image.kind = .fds → fdsRamSize ≤ s.prgRam.size
  /-- The kind is the factory's choice for the mapper number (R401). -/
  factoryKind : s.present = true → factory s.image.mapperNumber = some s.image.kind
  /-- A four-screen cartridge stays four-screen (R105). -/
  fourScreen : s.image.mirrorDefault = .fourScreen → s.mirrorMode = .fourScreen
  /-- `FDS_TICKS_PER_SCANLINE` is at least 1 (R18). -/
  ticks : 1 ≤ s.image.fdsTicks
  /-- Every register file but the active kind's is at reset (log entry 14). -/
  othersAtReset : s.regs.resetKind s.image.kind = RegFiles.reset

/-- `m'` is `m` with the byte `v` at offset `o`: that byte is `v`, every other byte reads as
before, and the size is the same. -/
def Stored (m m' : Memory) (o : Nat) (v : Byte) : Prop :=
  m'.size = m.size ∧ m'.read o = v ∧ ∀ p, p ≠ o → m'.read p = m.read p

/-- `r'` is the register array `r` with `x` at index `i`, every other register as it was. -/
def RegStored {w n : Nat} (r r' : Vector (BitVec w) n) (i : Nat) (x : BitVec w) : Prop :=
  ∀ (j : Nat) (h : j < n), r'[j] = if j = i then x else r[j]

/-- `t` is `s` after a store through a CHR window of bank `b` and bank size `bs` (R212): `s` itself
where CHR-RAM is absent, else `s` with exactly one byte of CHR-RAM stored. -/
def ChrStored (s t : State) (b bs : Nat) (a : ChrAddr) (v : Byte) : Prop :=
  if s.chrRam.size = 0 then t = s
  else ∃ m, t = { s with chrRam := m } ∧
    Stored s.chrRam m (bankOffset s.chrRam.size b bs a.toNat) v

/-- `t` is `s` after a store through a PRG-RAM window (R213): `s` itself where PRG-RAM is absent,
else `s` with exactly one byte of PRG-RAM stored and `sram_dirty` set. -/
def PrgRamStored (s t : State) (b bs : Nat) (a : Word) (v : Byte) : Prop :=
  if s.prgRam.size = 0 then t = s
  else ∃ m, t = { s with prgRam := m, sramDirty := true } ∧
    Stored s.prgRam m (bankOffset s.prgRam.size b bs a.toNat) v

/-- What a mirroring register leaves in `mirror_mode` when it selects `m` (R105). -/
def mirrored (s : State) (m : Mirror) : Mirror :=
  if s.image.mirrorDefault = .fourScreen then s.mirrorMode else m

/-- The transaction as the block sees it: a PPU address reduced to bits 12:0 (R405). -/
def Bus.truncated : Bus → Bus
  | .cpuRead a => .cpuRead a
  | .cpuWrite a v => .cpuWrite a v
  | .chrRead a => .chrRead ((a.setWidth 13).setWidth 16)
  | .chrWrite a v => .chrWrite ((a.setWidth 13).setWidth 16) v

/-- The state after a sequence of transactions, none where one of them stops. -/
def run : List Request → State → Option State
  | [], s => some s
  | r :: rest, s =>
    match handle r s with
    | .next t => run rest t
    | .fault _ => none
    | .refused _ => none

/-- `A12RISE n` (R330): n times a PPU read of $0000 and one of $1000. -/
def a12Rises : Nat → List Request
  | 0 => []
  | n + 1 => .bus (.chrRead 0x0000) :: .bus (.chrRead 0x1000) :: a12Rises n

/-- A CHR access at `a` is a rising edge of A12 (R720). -/
def a12Edge (s : State) (a : ChrAddr) : Bool :=
  s.regs.mmc3.lastA12 == 0 && a.extractLsb 12 12 == 1

/-- A CHR access at `a` makes the MMC3 raise its interrupt (R720, R721). -/
def a12Fires (s : State) (a : ChrAddr) : Bool :=
  a12Edge s a && mmc3NextCounter s.regs.mmc3 == 0 && s.regs.mmc3.irqEnable

/-- What an access at `a` leaves of the MMC3's edge detector and IRQ unit (R720, R721), on `t`. -/
def a12Seen (s t : State) (a : ChrAddr) : State :=
  { t with
    regs.mmc3.irqCounter :=
      if a12Edge s a then mmc3NextCounter s.regs.mmc3 else s.regs.mmc3.irqCounter
    regs.mmc3.irqReload := if a12Edge s a then false else s.regs.mmc3.irqReload
    regs.mmc3.irqPending := if a12Fires s a then true else s.regs.mmc3.irqPending
    regs.mmc3.lastA12 := a.extractLsb 12 12
    triggers := if a12Fires s a then s.triggers + 1 else s.triggers }

/-- The MMC5 bank register that serves PRG window `w` (0 at $8000, 3 at $E000) in PRG mode `p`
(the table of R930). -/
def mmc5WindowReg (p : BitVec 2) (w : Nat) : Nat :=
  if p = 0 then 4
  else if p = 1 then (if w < 2 then 2 else 4)
  else if p = 2 then (if w < 2 then 2 else w + 1)
  else w + 1

/-- The size of that window (the table of R930). -/
def mmc5WindowSize (p : BitVec 2) (w : Nat) : Nat :=
  if p = 0 then k32
  else if p = 1 then k16
  else if p = 2 then (if w < 2 then k16 else k8)
  else k8

/-- The instruction belongs to a CPU transaction. -/
def Instr.isCpu (i : Instr) : Bool :=
  match i.bus with
  | .cpuRead _ => true
  | .cpuWrite _ _ => true
  | .chrRead _ => false
  | .chrWrite _ _ => false

/-- The instruction belongs to a CPU read. -/
def Instr.isCpuRead (i : Instr) : Bool :=
  match i.bus with
  | .cpuRead _ => true
  | .cpuWrite _ _ => false
  | .chrRead _ => false
  | .chrWrite _ _ => false

/-- The active kind's interrupt level, what `irq_state` answers (R416). -/
def level (s : State) : Bool := s.regs.pending s.image.kind

/-- The register writes that acknowledge an interrupt (R1212). -/
def Instr.acknowledges : Instr → Bool
  | .mmc3IrqDisable _ _ => true
  | .vrc6IrqControl _ _ => true
  | .vrc6IrqAck _ _ => true
  | .vrc6aIrqControl _ _ => true
  | .vrc6aIrqAck _ _ => true
  | .vrc7IrqControl _ _ => true
  | .vrc7IrqAck _ _ => true
  | .vrc7IrqAckA4 _ _ => true
  | .fdsTimerCtrl _ v => v.extractLsb 1 1 == 0
  | .fdsMasterIo _ v => v.extractLsb 0 0 == 0
  | _ => false

/-- The requests after which no interrupt is pending (R1212): a write that acknowledges, irq_clear and
reset; and shutdown and construct, after which the cartridge that held the flag is gone (R418, R403). -/
def Machine.Request.endsPending (k : Kind) : Request → Bool
  | .bus b =>
    match decode k b with
    | .ok i => i.acknowledges
    | .error _ => false
  | .scanline _ => false
  | .reset => true
  | .irqState => false
  | .irqClear => true
  | .construct _ => true
  | .hostSave _ => false
  | .hostLoad _ => false
  | .shutdown => true

/-- From `s` to `t` no event was emitted and the interrupt level did not rise. -/
def NoRise (s t : State) : Prop :=
  t.triggers = s.triggers ∧ (level t = true → level s = true)

/-- From `s` to `t` either nothing was emitted and the level is the same, or at least one and at most
`n` events were emitted, the interrupt is pending, and the kind is one of `kinds` (R1210, R1211). -/
def RisesAtMost (n : Nat) (kinds : List Kind) (s t : State) : Prop :=
  (t.triggers = s.triggers ∧ level t = level s) ∨
  (s.triggers < t.triggers ∧ t.triggers ≤ s.triggers + n ∧ level t = true ∧ s.image.kind ∈ kinds)

end Sys2Proof
end

