-- ==== Sys2Proof/Certificates/Slice0/Obligations.lean ====
section
/-!
DEFINITION. The statements for the provers. A title or docstring names the decision row D<n> of
spec/92_eei_decisions.md, or the log entry, that a statement rests on where the spec's own
document does not settle the point.
-/

open Sys2Proof Sys2Proof.Machine Sys2Proof.Config

/-- For every state, address and value: the NROM read and write rows decode all of $8000 to $FFFF;
the read answers PRG_ROM[(addr mod 32K) mod PRG_ROM_SIZE], which with a 16KB ROM is PRG_ROM[addr
mod 16K], and changes nothing else; the write changes nothing. (R510, R511) -/
def Obligations.NromReadsRomMirroredAndIgnoresWrites : Prop :=
  ∀ (s : State) (a : Word) (v : Byte),
    (0x8000 ≤ a → decode .nrom (.cpuRead a) = .ok (.nromPrgRead a) ∧
      decode .nrom (.cpuWrite a v) = .ok (.nromPrgWrite a v)) ∧
    exec (.nromPrgRead a) s = .next { s with
      answer := .byte (s.image.prgRom.read (a.toNat % 0x8000 % s.image.prgRom.size)) } ∧
    (s.image.prgRom.size = 0x4000 →
      exec (.nromPrgRead a) s = .next { s with
        answer := .byte (s.image.prgRom.read (a.toNat % 0x4000)) }) ∧
    exec (.nromPrgWrite a v) s = .next { s with answer := .nothing }

/-- For every state, address and value: the bank row decodes all of $8000 to $FFFF and stores value
in prg_bank and nothing else; the low read row decodes $8000 to $BFFF and answers the byte of
the 16K bank prg_bank mod nbanks(PRG_ROM_SIZE, 16K), and changes nothing else. (R520, R521) -/
def Obligations.UxromBankWriteSelectsLowWindow : Prop :=
  ∀ (s : State) (a : Word) (v : Byte),
    (0x8000 ≤ a → decode .uxrom (.cpuWrite a v) = .ok (.uxromBankWrite a v)) ∧
    (0x8000 ≤ a → a ≤ 0xBFFF → decode .uxrom (.cpuRead a) = .ok (.uxromPrgReadLow a)) ∧
    exec (.uxromBankWrite a v) s = .next { s with regs.uxrom.prgBank := v, answer := .nothing } ∧
    exec (.uxromPrgReadLow a) s = .next { s with
      answer := .byte (s.image.prgRom.read
        ((s.regs.uxrom.prgBank.toNat % max 1 (s.image.prgRom.size / 0x4000) * 0x4000 +
          a.toNat % 0x4000) % s.image.prgRom.size)) }

/-- For every state, address and value: the Camerica bank row stores value in prg_bank and nothing
else; its low read row answers the byte of the 16K bank prg_bank mod nbanks(PRG_ROM_SIZE, 16K);
both high read rows answer the byte of the 16K bank nbanks - 1; a read changes nothing else.
(41_simple_mappers.md (UxROM, Camerica), 92_eei_decisions.md D15) -/
def Obligations.CamericaBankingAndLastBankWindows : Prop :=
  ∀ (s : State) (a : Word) (v : Byte),
    exec (.camericaBankWrite a v) s =
      .next { s with regs.uxrom.prgBank := v, answer := .nothing } ∧
    exec (.camericaPrgReadLow a) s = .next { s with
      answer := .byte (s.image.prgRom.read
        ((s.regs.uxrom.prgBank.toNat % max 1 (s.image.prgRom.size / 0x4000) * 0x4000 +
          a.toNat % 0x4000) % s.image.prgRom.size)) } ∧
    ∀ i ∈ ([.uxromPrgReadHigh a, .camericaPrgReadHigh a] : List Instr),
      exec i s = .next { s with
        answer := .byte (prgRomBank s (nbanks s.image.prgRom.size k16 - 1) k16 a) }

/-- For every state, addresses and value: the rows decode their ranges; a PRG read answers
PRG_ROM[(addr mod 32K) mod PRG_ROM_SIZE]; a CHR read answers ChrBank(chr_bank, 8K, addr); a CHR
write stores exactly that byte of CHR-RAM, or nothing on CHR-ROM; nothing else changes. (R531,
R532, R533) -/
def Obligations.CnromReadsFixedPrgAndBankedChr : Prop :=
  ∀ (s : State) (a : Word) (c : ChrAddr) (v : Byte),
    (0x8000 ≤ a → decode .cnrom (.cpuRead a) = .ok (.cnromPrgRead a)) ∧
    decode .cnrom (.chrRead (c.setWidth 16)) = .ok (.cnromChrRead c) ∧
    decode .cnrom (.chrWrite (c.setWidth 16) v) = .ok (.cnromChrWrite c v) ∧
    exec (.cnromPrgRead a) s = .next { s with
      answer := .byte (s.image.prgRom.read (a.toNat % 0x8000 % s.image.prgRom.size)) } ∧
    exec (.cnromChrRead c) s = .next { s with
      answer := .byte (chrBank s s.regs.cnrom.chrBank.toNat k8 c) } ∧
    ∃ t, exec (.cnromChrWrite c v) s = .next { t with answer := .nothing } ∧
      ChrStored s t s.regs.cnrom.chrBank.toNat k8 c v

/-- For every state and address: the row decodes $8000 to $FFFF, and it answers PrgRomBank(prg_bank,
32K, addr) and changes nothing else. (R551) -/
def Obligations.AxromReadShowsSelectedBank : Prop :=
  ∀ (s : State) (a : Word),
    (0x8000 ≤ a → decode .axrom (.cpuRead a) = .ok (.axromPrgRead a)) ∧
    exec (.axromPrgRead a) s = .next { s with
      answer := .byte (s.image.prgRom.read
        ((s.regs.axrom.prgBank.toNat % max 1 (s.image.prgRom.size / 0x8000) * 0x8000 +
          a.toNat % 0x8000) % s.image.prgRom.size)) }

/-- For every state, address and value: CNROM stores value[1:0]; Color Dreams stores value[1:0] and
value[7:4] and its windows use them; AxROM stores value[2:0] and sets mirror_mode from value[4]
unless the cartridge is four-screen; nothing else changes. (41_simple_mappers.md (CNROM, Color
Dreams, AxROM), 92_eei_decisions.md D9, 92_eei_decisions.md D16, 92_eei_decisions.md D54) -/
def Obligations.SimpleBankWritesKeepTheirBits : Prop :=
  ∀ (s : State) (a : Word) (c : ChrAddr) (v : Byte),
    exec (.cnromChrBankWrite a v) s = .next { s with
      regs.cnrom.chrBank := v.extractLsb 1 0, answer := .nothing } ∧
    exec (.colorDreamsBankWrite a v) s = .next { s with
      regs.colorDreams.prgBank := v.extractLsb 1 0
      regs.colorDreams.chrBank := v.extractLsb 7 4
      answer := .nothing } ∧
    exec (.colorDreamsPrgRead a) s = .next { s with
      answer := .byte (prgRomBank s s.regs.colorDreams.prgBank.toNat k32 a) } ∧
    exec (.colorDreamsChrRead c) s = .next { s with
      answer := .byte (chrBank s s.regs.colorDreams.chrBank.toNat k8 c) } ∧
    (∃ t, exec (.colorDreamsChrWrite c v) s = .next { t with answer := .nothing } ∧
      ChrStored s t s.regs.colorDreams.chrBank.toNat k8 c v) ∧
    exec (.axromBankWrite a v) s = .next { s with
      regs.axrom.prgBank := v.extractLsb 2 0
      mirrorMode := mirrored s (if v.extractLsb 4 4 = 1 then .singleB else .singleA)
      answer := .nothing }

/-- For every state, address and value and each of the nine kinds: the read answers PRG_RAM[(addr
mod 8K) mod PRG_RAM_SIZE], or 0 where there is no PRG-RAM; the write stores exactly that byte
and sets sram_dirty, or changes nothing where there is no PRG-RAM. (20_memory.md (Shared
windows), 92_eei_decisions.md D6, 92_eei_decisions.md D10) -/
def Obligations.StandardPrgRamWindowReadsAndStores : Prop :=
  ∀ (s : State) (a : Word) (v : Byte),
    (∀ i ∈ ([.nromPrgramRead a, .uxromPrgramRead a, .camericaPrgramRead a, .cnromPrgramRead a,
        .colorDreamsPrgramRead a, .axromPrgramRead a, .mmc1PrgramRead a, .mmc2PrgramRead a,
        .mmc4PrgramRead a] : List Instr),
      exec i s = .next { s with
        answer := .byte (if s.prgRam.size = 0 then 0
          else s.prgRam.read (a.toNat % 0x2000 % s.prgRam.size)) }) ∧
    (∀ i ∈ ([.nromPrgramWrite a v, .uxromPrgramWrite a v, .camericaPrgramWrite a v,
        .cnromPrgramWrite a v, .colorDreamsPrgramWrite a v, .axromPrgramWrite a v,
        .mmc1PrgramWrite a v, .mmc2PrgramWrite a v, .mmc4PrgramWrite a v] : List Instr),
      ∃ t, exec i s = .next { t with answer := .nothing } ∧ PrgRamStored s t 0 k8 a v)

/-- For every state, address and value and each of NROM, UxROM, Camerica, AxROM and FDS: the CHR
read answers the byte at (addr mod 8K) mod CHR_SIZE of CHR-RAM where present and CHR-ROM
otherwise; the CHR write stores exactly that byte of CHR-RAM, or changes nothing on CHR-ROM.
(R230, R231) -/
def Obligations.UnbankedChrReadsAndStores : Prop :=
  ∀ (s : State) (a : ChrAddr) (v : Byte),
    (∀ i ∈ ([.nromChrRead a, .uxromChrRead a, .camericaChrRead a, .axromChrRead a,
        .fdsChrRead a] : List Instr),
      exec i s = .next { s with
        answer := .byte (if s.chrRam.size = 0
          then s.image.chrRom.read (a.toNat % s.image.chrRom.size)
          else s.chrRam.read (a.toNat % s.chrRam.size)) }) ∧
    (∀ i ∈ ([.nromChrWrite a v, .uxromChrWrite a v, .camericaChrWrite a v, .axromChrWrite a v,
        .fdsChrWrite a v] : List Instr),
      ∃ t, exec i s = .next { t with answer := .nothing } ∧ ChrStored s t 0 k8 a v)

/-- For every buffer size other than 0, bank number, bank size and address: the offset is below the
size; adding the bank count to the bank number changes nothing; a whole bank that exists is the
slice from bank times bank size; the last bank is the count less 1, and the penultimate is the
count less 2, or 0 with one bank. (20_memory.md (Bank arithmetic and the ROM/RAM multiplexer),
92_eei_decisions.md D8) -/
def Obligations.BankArithmeticStaysInsideTheBuffer : Prop :=
  ∀ size b bs a : Nat, size ≠ 0 → bs ≠ 0 →
    bankOffset size b bs a < size ∧
    bankOffset size (b + nbanks size bs) bs a = bankOffset size b bs a ∧
    (b < size / bs → bankOffset size b bs a = b * bs + a % bs) ∧
    fromEnd size bs 1 = nbanks size bs - 1 ∧
    fromEnd size bs 2 = (if nbanks size bs = 1 then 0 else nbanks size bs - 2)

/-- For every state, address and value: the reset row empties shift and shift_count and ors 0x0C
into control; a serial row below the fifth bit ors value[0] at place shift_count and counts; at
the fifth bit the port empties and the assembled value goes to control (with mirror_mode, unless
four-screen), chr0, chr1 or prg by addr[14:13]; nothing else changes. (42_mmc1.md (Serial
protocol), 92_eei_decisions.md D17) -/
def Obligations.Mmc1SerialPortStepsAndCommits : Prop :=
  ∀ (s : State) (a : Word) (v : Byte),
    let r := s.regs.mmc1
    let v5 : BitVec 5 := r.shift ||| ((v.extractLsb 0 0).setWidth 5 <<< r.shiftCount.val)
    exec (.mmc1ResetWrite a v) s = .next { s with
      regs.mmc1.shift := 0
      regs.mmc1.shiftCount := 0
      regs.mmc1.control := r.control ||| 0x0C
      answer := .nothing } ∧
    ∀ i ∈ ([.mmc1WriteControl a v, .mmc1WriteChr0 a v, .mmc1WriteChr1 a v,
        .mmc1WritePrg a v] : List Instr),
      if r.shiftCount.val = 4 then
        exec i s = .next { s with
          regs.mmc1.shift := 0
          regs.mmc1.shiftCount := 0
          regs.mmc1.control := if a.extractLsb 14 13 = 0 then v5 else r.control
          regs.mmc1.chr0 := if a.extractLsb 14 13 = 1 then v5 else r.chr0
          regs.mmc1.chr1 := if a.extractLsb 14 13 = 2 then v5 else r.chr1
          regs.mmc1.prg := if a.extractLsb 14 13 = 3 then v5 else r.prg
          mirrorMode :=
            if a.extractLsb 14 13 = 0 then
              mirrored s (([.singleA, .singleB, .vertical, .horizontal] : List Mirror).getD
                (v5.extractLsb 1 0).toNat s.mirrorMode)
            else s.mirrorMode
          answer := .nothing }
      else
        ∃ c : Fin 5, c.val = r.shiftCount.val + 1 ∧
          exec i s = .next { s with
            regs.mmc1.shift := v5
            regs.mmc1.shiftCount := c
            answer := .nothing }

/-- From every state with an MMC1 cartridge and an empty serial port, five writes with bit 7 clear
to any addresses from $8000 leave an empty port and, in the register the fifth address selects,
the value whose bit i is bit 0 of the (i+1)-th write; the other three registers keep their
values. A write with bit 7 set is decoded as the reset form whatever its address, one with bit 7
clear never is, and the reset form empties the port. (R303) -/
def Obligations.Mmc1FiveWritesAssembleOneValue : Prop :=
  (∀ (s : State) (a b c d e : Word) (va vb vc vd ve : Byte),
    s.present = true → s.image.kind = .mmc1 →
    s.regs.mmc1.shift = 0 → s.regs.mmc1.shiftCount = 0 →
    0x8000 ≤ a → 0x8000 ≤ b → 0x8000 ≤ c → 0x8000 ≤ d → 0x8000 ≤ e →
    va.getLsbD 7 = false → vb.getLsbD 7 = false → vc.getLsbD 7 = false →
    vd.getLsbD 7 = false → ve.getLsbD 7 = false →
    ∃ t v5,
      run [.bus (.cpuWrite a va), .bus (.cpuWrite b vb), .bus (.cpuWrite c vc),
        .bus (.cpuWrite d vd), .bus (.cpuWrite e ve)] s = some t ∧
      v5 = BitVec.ofNat 5 (va.toNat % 2 + vb.toNat % 2 * 2 + vc.toNat % 2 * 4 +
        vd.toNat % 2 * 8 + ve.toNat % 2 * 16) ∧
      t.regs.mmc1 =
        { shift := 0
          shiftCount := 0
          control := if e.extractLsb 14 13 = 0 then v5 else s.regs.mmc1.control
          chr0 := if e.extractLsb 14 13 = 1 then v5 else s.regs.mmc1.chr0
          chr1 := if e.extractLsb 14 13 = 2 then v5 else s.regs.mmc1.chr1
          prg := if e.extractLsb 14 13 = 3 then v5 else s.regs.mmc1.prg }) ∧
  (∀ (s : State) (a : Word) (v : Byte), 0x8000 ≤ a →
    (decode .mmc1 (.cpuWrite a v) = .ok (.mmc1ResetWrite a v) ↔ v.getLsbD 7 = true) ∧
    ∃ t, exec (.mmc1ResetWrite a v) s = .next t ∧
      t.regs.mmc1.shift = 0 ∧ t.regs.mmc1.shiftCount = 0)

/-- For every state, address and value: each PRG read answers the bank and size of its column of the
PRG table for control[3:2]; CHR reads and writes use the bank and size of the CHR table for
control[4] and the half of the address; nothing else changes. (42_mmc1.md (Windows),
92_eei_decisions.md D17) -/
def Obligations.Mmc1WindowsFollowControl : Prop :=
  ∀ (s : State) (a : Word) (c : ChrAddr) (v : Byte),
    let r := s.regs.mmc1
    let m := r.control.extractLsb 3 2
    let b32 := (r.prg.extractLsb 3 1).toNat
    let b16 := (r.prg.extractLsb 3 0).toNat
    let chr : Nat × Nat :=
      if r.control.getLsbD 4 = false then (r.chr0.toNat / 2, k8)
      else if c.toNat < 0x1000 then (r.chr0.toNat, k4) else (r.chr1.toNat, k4)
    exec (.mmc1PrgReadLow a) s = .next { s with
      answer := .byte (
        if m = 2 then prgRomBank s 0 k16 a
        else if m = 3 then prgRomBank s b16 k16 a
        else prgRomBank s b32 k32 a) } ∧
    exec (.mmc1PrgReadHigh a) s = .next { s with
      answer := .byte (
        if m = 2 then prgRomBank s b16 k16 a
        else if m = 3 then prgRomBank s (nbanks s.image.prgRom.size k16 - 1) k16 a
        else prgRomBank s b32 k32 a) } ∧
    exec (.mmc1ChrRead c) s = .next { s with answer := .byte (chrBank s chr.1 chr.2 c) } ∧
    ∃ t, exec (.mmc1ChrWrite c v) s = .next { t with answer := .nothing } ∧
      ChrStored s t chr.1 chr.2 c v

/-- For every state, address and value: bank select, PRG-RAM protect and IRQ latch store the byte;
IRQ reload zeroes the counter and sets the reload flag; IRQ disable clears enable and pending;
IRQ enable sets enable; mirroring stores value[0] and sets mirror_mode unless four-screen;
nothing else changes. (43_mmc3.md (Register decode), 92_eei_decisions.md D13,
92_eei_decisions.md D19, 92_eei_decisions.md D21, 92_eei_decisions.md D22, 92_eei_decisions.md
D23) -/
def Obligations.Mmc3RegisterWritesStoreTheirValue : Prop :=
  ∀ (s : State) (a : Word) (v : Byte),
    exec (.mmc3BankSelect a v) s =
      .next { s with regs.mmc3.bankSelect := v, answer := .nothing } ∧
    exec (.mmc3PrgRamProtect a v) s =
      .next { s with regs.mmc3.prgRamProtect := v, answer := .nothing } ∧
    exec (.mmc3IrqLatch a v) s =
      .next { s with regs.mmc3.irqLatch := v, answer := .nothing } ∧
    exec (.mmc3IrqReload a v) s = .next { s with
      regs.mmc3.irqCounter := 0, regs.mmc3.irqReload := true, answer := .nothing } ∧
    exec (.mmc3IrqDisable a v) s = .next { s with
      regs.mmc3.irqEnable := false, regs.mmc3.irqPending := false, answer := .nothing } ∧
    exec (.mmc3IrqEnable a v) s =
      .next { s with regs.mmc3.irqEnable := true, answer := .nothing } ∧
    exec (.mmc3Mirroring a v) s = .next { s with
      regs.mmc3.mirroring := v.extractLsb 0 0
      mirrorMode := mirrored s (if v.getLsbD 0 then .horizontal else .vertical)
      answer := .nothing }

/-- For every state, address and value: an address with addr and $E001 equal to $8001 decodes as
bank data; the write leaves the byte in the register that bank_select[2:0] names, the other
seven registers and the rest of the state as they were. (R702) -/
def Obligations.Mmc3BankDataStoresTheSelectedRegister : Prop :=
  ∀ (s : State) (a : Word) (v : Byte),
    (a &&& 0xE001 = 0x8001 → decode .mmc3 (.cpuWrite a v) = .ok (.mmc3BankData a v)) ∧
    ∃ r, exec (.mmc3BankData a v) s = .next { s with regs.mmc3.r := r, answer := .nothing } ∧
      RegStored s.regs.mmc3.r r (s.regs.mmc3.bankSelect.extractLsb 2 0).toNat v

/-- For every state and address: the read answers the 8K bank of its window: at $8000 R6[5:0], at
$A000 R7[5:0], at $C000 the penultimate bank, with $8000 and $C000 exchanged where
bank_select[6] is set, at $E000 the last bank; nothing else changes. (43_mmc3.md (PRG windows),
92_eei_decisions.md D19) -/
def Obligations.Mmc3PrgWindowsSwapWithBankSelectBit6 : Prop :=
  ∀ (s : State) (a : Word),
    let n := nbanks s.image.prgRom.size k8
    let swap := s.regs.mmc3.bankSelect.getLsbD 6
    let p6 := s.regs.mmc3.r[6].toNat % 64
    let p7 := s.regs.mmc3.r[7].toNat % 64
    let penultimate := if n = 1 then 0 else n - 2
    exec (.mmc3PrgRead a) s = .next { s with
      answer := .byte (prgRomBank s (
        if a.extractLsb 14 13 = 0 then (if swap then penultimate else p6)
        else if a.extractLsb 14 13 = 1 then p7
        else if a.extractLsb 14 13 = 2 then (if swap then p6 else penultimate)
        else n - 1) k8 a) }

/-- For every state, address and value: the read answers the PRG-RAM byte where prg_ram_protect[7]
is set and 0 otherwise; the write stores exactly that byte and sets sram_dirty where bit 7 is
set and bit 6 clear, and changes nothing otherwise. (43_mmc3.md (PRG windows),
92_eei_decisions.md D22) -/
def Obligations.Mmc3PrgRamIsGatedByProtect : Prop :=
  ∀ (s : State) (a : Word) (v : Byte),
    exec (.mmc3PrgramRead a) s = .next { s with
      answer := .byte (if s.regs.mmc3.prgRamProtect.getLsbD 7 then prgRamBank s 0 k8 a else 0) } ∧
    ∃ t, exec (.mmc3PrgramWrite a v) s = .next { t with answer := .nothing } ∧
      if s.regs.mmc3.prgRamProtect.getLsbD 7 && !s.regs.mmc3.prgRamProtect.getLsbD 6
      then PrgRamStored s t 0 k8 a v else t = s

/-- For every state, address and value: the read answers the byte of the window of addr with bit 12
inverted by bank_select[7]; the write stores through that window; both then leave last_a12 at
addr[12] and, on a rising edge, the reloaded or decremented counter, the reload flag clear, and
pending and one more trigger exactly where the new count is 0 and the IRQ enabled; nothing else
changes. (43_mmc3.md (CHR windows; Scanline edge detector and IRQ counter), 92_eei_decisions.md
D20, 92_eei_decisions.md D21) -/
def Obligations.Mmc3ChrAccessAnswersThenDetectsEdge : Prop :=
  ∀ (s : State) (a : ChrAddr) (v : Byte),
    let r := s.regs.mmc3.r
    let ac := if s.regs.mmc3.bankSelect.getLsbD 7 then (a ^^^ 0x1000).toNat else a.toNat
    let w : Nat × Nat :=
      if ac < 0x0800 then (r[0].toNat, k2) else if ac < 0x1000 then (r[1].toNat, k2)
      else if ac < 0x1400 then (r[2].toNat, k1) else if ac < 0x1800 then (r[3].toNat, k1)
      else if ac < 0x1C00 then (r[4].toNat, k1) else (r[5].toNat, k1)
    exec (.mmc3ChrRead a) s =
      .next { a12Seen s s a with answer := .byte (chrBank s w.1 w.2 a) } ∧
    ∃ t, exec (.mmc3ChrWrite a v) s = .next { a12Seen s t a with answer := .nothing } ∧
      ChrStored s t w.1 w.2 a v

/-- From every state with an MMC3 cartridge, the IRQ enabled, none pending, and the counter 0 or a
reload requested: after n pairs of PPU reads of $0000 and $1000 with n at most the latch nothing
is pending and no trigger was emitted; after latch + 1 pairs the IRQ is pending and one trigger
was emitted. (43_mmc3.md (Scanline edge detector and IRQ counter), 92_eei_decisions.md D21) -/
def Obligations.Mmc3InterruptsAfterLatchPlusOneEdges : Prop :=
  ∀ s : State, s.present = true → s.image.kind = .mmc3 →
    s.regs.mmc3.irqEnable = true → s.regs.mmc3.irqPending = false →
    (s.regs.mmc3.irqCounter = 0 ∨ s.regs.mmc3.irqReload = true) →
    (∀ n ≤ s.regs.mmc3.irqLatch.toNat, ∃ t, run (a12Rises n) s = some t ∧
      level t = false ∧ t.triggers = s.triggers) ∧
    ∃ t, run (a12Rises (s.regs.mmc3.irqLatch.toNat + 1)) s = some t ∧
      level t = true ∧ t.triggers = s.triggers + 1

/-- For every state: the reload write leaves the counter 0 and the reload flag set. Whenever that
holds, each MMC3 transaction either is a CHR access on a rising edge, and then the counter
becomes the present latch and the flag clears, or leaves the counter 0 and the flag set, a write
of a new latch included. (R1321) -/
def Obligations.Mmc3ReloadWaitsForTheNextEdge : Prop :=
  (∀ (s : State) (a : Word) (v : Byte), ∃ t, exec (.mmc3IrqReload a v) s = .next t ∧
    t.regs.mmc3.irqCounter = 0 ∧ t.regs.mmc3.irqReload = true ∧
    t.regs.mmc3.irqLatch = s.regs.mmc3.irqLatch) ∧
  (∀ (s : State) (a : Word) (v : Byte), ∃ t, exec (.mmc3IrqLatch a v) s = .next t ∧
    t.regs.mmc3.irqLatch = v) ∧
  ∀ (i : Instr) (s : State), i.kind = .mmc3 →
    s.regs.mmc3.irqCounter = 0 → s.regs.mmc3.irqReload = true →
    ∃ t, exec i s = .next t ∧
      (∀ a, (i = .mmc3ChrRead a ∨ ∃ v, i = .mmc3ChrWrite a v) → a12Edge s a = true →
        t.regs.mmc3.irqCounter = s.regs.mmc3.irqLatch ∧ t.regs.mmc3.irqReload = false) ∧
      ((∀ a, (i = .mmc3ChrRead a ∨ ∃ v, i = .mmc3ChrWrite a v) → a12Edge s a = false) →
        t.regs.mmc3.irqCounter = 0 ∧ t.regs.mmc3.irqReload = true)

/-- For every state, address and value and both kinds: the PRG bank write stores value[3:0]; the
four CHR bank writes store value[4:0] in their register; the mirroring write stores value[0] and
sets mirror_mode unless four-screen; the ignored write changes nothing; nothing else changes.
(44_mmc2_mmc4.md (Register decode), 92_eei_decisions.md D25) -/
def Obligations.Mmc2AndMmc4RegisterWritesStoreTheirField : Prop :=
  ∀ (s : State) (a : Word) (v : Byte),
    (∀ i ∈ ([.mmc2PrgBank a v, .mmc4PrgBank a v] : List Instr), exec i s =
      .next { s with regs.mmc24.prgBank := v.extractLsb 3 0, answer := .nothing }) ∧
    (∀ i ∈ ([.mmc2ChrFd0 a v, .mmc4ChrFd0 a v] : List Instr), exec i s =
      .next { s with regs.mmc24.chrFd0 := v.extractLsb 4 0, answer := .nothing }) ∧
    (∀ i ∈ ([.mmc2ChrFe0 a v, .mmc4ChrFe0 a v] : List Instr), exec i s =
      .next { s with regs.mmc24.chrFe0 := v.extractLsb 4 0, answer := .nothing }) ∧
    (∀ i ∈ ([.mmc2ChrFd1 a v, .mmc4ChrFd1 a v] : List Instr), exec i s =
      .next { s with regs.mmc24.chrFd1 := v.extractLsb 4 0, answer := .nothing }) ∧
    (∀ i ∈ ([.mmc2ChrFe1 a v, .mmc4ChrFe1 a v] : List Instr), exec i s =
      .next { s with regs.mmc24.chrFe1 := v.extractLsb 4 0, answer := .nothing }) ∧
    (∀ i ∈ ([.mmc2Mirroring a v, .mmc4Mirroring a v] : List Instr), exec i s =
      .next { s with
        regs.mmc24.mirroring := v.extractLsb 0 0
        mirrorMode := mirrored s (if v.getLsbD 0 then .horizontal else .vertical)
        answer := .nothing }) ∧
    (∀ i ∈ ([.mmc2IgnoredWrite a v, .mmc4IgnoredWrite a v] : List Instr), exec i s =
      .next { s with answer := .nothing })

/-- For every state, addresses and value: MMC2 PRG reads answer the 8K bank prg_bank at $8000 and
the third-last, second-last and last bank above, wrapping where there are fewer; MMC4 the 16K
bank prg_bank, or the last one where addr[14] is set. A CHR read of either kind answers the 4K
bank its latch selects before the read, then latch0 is $FD after $0FD8-$0FDF and $FE after
$0FE8-$0FEF, latch1 likewise at $1FD8 and $1FE8; a CHR write stores through that bank and moves
no latch; nothing else changes. (44_mmc2_mmc4.md (PRG windows; CHR windows and latches),
92_eei_decisions.md D25, 92_eei_decisions.md D26) -/
def Obligations.Mmc2AndMmc4WindowsAndLatches : Prop :=
  ∀ (s : State) (p : Word) (a : ChrAddr) (v : Byte),
    let n8 := nbanks s.image.prgRom.size k8
    let w := (p.extractLsb 14 13).toNat
    let r := s.regs.mmc24
    let x := a.toNat
    let b :=
      if x < 0x1000 then (if r.latch0 = .fd then r.chrFd0 else r.chrFe0).toNat
      else (if r.latch1 = .fd then r.chrFd1 else r.chrFe1).toNat
    exec (.mmc2PrgRead p) s = .next { s with
      answer := .byte (prgRomBank s
        (if w = 0 then r.prgBank.toNat
         else if 4 - w ≤ n8 then n8 - (4 - w)
         else fromEnd s.image.prgRom.size k8 (4 - w)) k8 p) } ∧
    exec (.mmc4PrgRead p) s = .next { s with
      answer := .byte (prgRomBank s
        (if p.getLsbD 14 then nbanks s.image.prgRom.size k16 - 1 else r.prgBank.toNat) k16 p) } ∧
    (∀ i ∈ ([.mmc2ChrRead a, .mmc4ChrRead a] : List Instr), exec i s = .next { s with
      regs.mmc24.latch0 :=
        if 0x0FD8 ≤ x ∧ x ≤ 0x0FDF then .fd else if 0x0FE8 ≤ x ∧ x ≤ 0x0FEF then .fe else r.latch0
      regs.mmc24.latch1 :=
        if 0x1FD8 ≤ x ∧ x ≤ 0x1FDF then .fd else if 0x1FE8 ≤ x ∧ x ≤ 0x1FEF then .fe else r.latch1
      answer := .byte (chrBank s b k4 a) }) ∧
    (∀ i ∈ ([.mmc2ChrWrite a v, .mmc4ChrWrite a v] : List Instr),
      ∃ t, exec i s = .next { t with answer := .nothing } ∧ ChrStored s t b k4 a v)

/-- From every state with an MMC2 or MMC4 cartridge, for every two PPU addresses: after a read at
the first, a read at the second succeeds and, if the first is a trigger and the second lies in
the same half, it answers the byte of the 4K bank chr_fd0, chr_fe0, chr_fd1 or chr_fe1 that the
trigger names. (44_mmc2_mmc4.md (CHR windows and latches), 92_eei_decisions.md D26) -/
def Obligations.Mmc2AndMmc4TriggerReadSelectsTheBank : Prop :=
  ∀ (s : State) (a b : ChrAddr), s.present = true →
    (s.image.kind = .mmc2 ∨ s.image.kind = .mmc4) →
    ∃ t, run [.bus (.chrRead (a.setWidth 16)), .bus (.chrRead (b.setWidth 16))] s = some t ∧
      (0x0FD8 ≤ a → a ≤ 0x0FDF → b < 0x1000 →
        t.answer = .byte (chrBank s s.regs.mmc24.chrFd0.toNat k4 b)) ∧
      (0x0FE8 ≤ a → a ≤ 0x0FEF → b < 0x1000 →
        t.answer = .byte (chrBank s s.regs.mmc24.chrFe0.toNat k4 b)) ∧
      (0x1FD8 ≤ a → a ≤ 0x1FDF → 0x1000 ≤ b →
        t.answer = .byte (chrBank s s.regs.mmc24.chrFd1.toNat k4 b)) ∧
      (0x1FE8 ≤ a → a ≤ 0x1FEF → 0x1000 ≤ b →
        t.answer = .byte (chrBank s s.regs.mmc24.chrFe1.toNat k4 b))

/-- For every state, address and value: the mode, protect, ExRAM mode, fill and CHR upper writes
store value[1:0], fill tile, IRQ target and both multiplier writes the byte, IRQ enable
value[7]; the nametable write stores the byte and sets mirror_mode for $50, $44, $00 and $55
unless four-screen; nothing else changes, irq_pending included. (45_mmc5.md (Register decode;
IRQ and multiplier registers), 92_eei_decisions.md D27, 92_eei_decisions.md D28,
92_eei_decisions.md D29, 92_eei_decisions.md D30, 92_eei_decisions.md D31, 92_eei_decisions.md
D32, 92_eei_decisions.md D33) -/
def Obligations.Mmc5ConfigurationWritesStoreTheirField : Prop :=
  ∀ (s : State) (a : Word) (v : Byte),
    exec (.mmc5PrgMode a v) s =
      .next { s with regs.mmc5.prgMode := v.extractLsb 1 0, answer := .nothing } ∧
    exec (.mmc5ChrMode a v) s =
      .next { s with regs.mmc5.chrMode := v.extractLsb 1 0, answer := .nothing } ∧
    exec (.mmc5RamProtect1 a v) s =
      .next { s with regs.mmc5.ramProtect1 := v.extractLsb 1 0, answer := .nothing } ∧
    exec (.mmc5RamProtect2 a v) s =
      .next { s with regs.mmc5.ramProtect2 := v.extractLsb 1 0, answer := .nothing } ∧
    exec (.mmc5ExramMode a v) s =
      .next { s with regs.mmc5.exramMode := v.extractLsb 1 0, answer := .nothing } ∧
    exec (.mmc5FillTile a v) s = .next { s with regs.mmc5.fillTile := v, answer := .nothing } ∧
    exec (.mmc5FillAttr a v) s =
      .next { s with regs.mmc5.fillAttr := v.extractLsb 1 0, answer := .nothing } ∧
    exec (.mmc5ChrUpper a v) s =
      .next { s with regs.mmc5.chrUpper := v.extractLsb 1 0, answer := .nothing } ∧
    exec (.mmc5IrqTarget a v) s =
      .next { s with regs.mmc5.irqScanline := v, answer := .nothing } ∧
    exec (.mmc5IrqEnable a v) s =
      .next { s with regs.mmc5.irqEnable := v.getLsbD 7, answer := .nothing } ∧
    exec (.mmc5MulA a v) s = .next { s with regs.mmc5.mulA := v, answer := .nothing } ∧
    exec (.mmc5MulB a v) s = .next { s with regs.mmc5.mulB := v, answer := .nothing } ∧
    exec (.mmc5NtMap a v) s = .next { s with
      regs.mmc5.ntMap := v
      mirrorMode :=
        if v = 0x50 then mirrored s .horizontal
        else if v = 0x44 then mirrored s .vertical
        else if v = 0x00 then mirrored s .singleA
        else if v = 0x55 then mirrored s .singleB
        else s.mirrorMode
      answer := .nothing }

/-- For every state and value, and every address of the row: $5113 stores prg_reg[0], $5114-$5117
prg_reg[addr - $5113], $5120-$5127 and $5128-$512B chr_reg[addr - $5120], $5000-$500F,
$5010-$5013 and $5014-$5015 audio[addr - $5000]; the other registers of the array and the rest
of the state are unchanged. (45_mmc5.md (Register decode; ExRAM and audio), 92_eei_decisions.md
D28, 92_eei_decisions.md D29, 92_eei_decisions.md D35) -/
def Obligations.Mmc5BankAndAudioWritesStoreOneRegister : Prop :=
  ∀ (s : State) (a : Word) (v : Byte),
    (∃ r, exec (.mmc5PrgRamBank a v) s =
        .next { s with regs.mmc5.prgReg := r, answer := .nothing } ∧
      RegStored s.regs.mmc5.prgReg r 0 v) ∧
    (0x5114 ≤ a → a ≤ 0x5117 → ∃ r, exec (.mmc5PrgBank a v) s =
        .next { s with regs.mmc5.prgReg := r, answer := .nothing } ∧
      RegStored s.regs.mmc5.prgReg r (a.toNat - 0x5113) v) ∧
    (0x5120 ≤ a → a ≤ 0x5127 → ∃ r, exec (.mmc5ChrBank a v) s =
        .next { s with regs.mmc5.chrReg := r, answer := .nothing } ∧
      RegStored s.regs.mmc5.chrReg r (a.toNat - 0x5120) v) ∧
    (0x5128 ≤ a → a ≤ 0x512B → ∃ r, exec (.mmc5ChrBankB a v) s =
        .next { s with regs.mmc5.chrReg := r, answer := .nothing } ∧
      RegStored s.regs.mmc5.chrReg r (a.toNat - 0x5120) v) ∧
    (0x5000 ≤ a → a ≤ 0x500F → ∃ r, exec (.mmc5AudioWrite a v) s =
        .next { s with regs.mmc5.audio := r, answer := .nothing } ∧
      RegStored s.regs.mmc5.audio r (a.toNat - 0x5000) v) ∧
    (0x5010 ≤ a → a ≤ 0x5013 → ∃ r, exec (.mmc5AudioWriteHi a v) s =
        .next { s with regs.mmc5.audio := r, answer := .nothing } ∧
      RegStored s.regs.mmc5.audio r (a.toNat - 0x5000) v) ∧
    (0x5014 ≤ a → a ≤ 0x5015 → ∃ r, exec (.mmc5AudioWriteTop a v) s =
        .next { s with regs.mmc5.audio := r, answer := .nothing } ∧
      RegStored s.regs.mmc5.audio r (a.toNat - 0x5000) v)

/-- For every state, address and value: the status read answers $80 where irq_pending is set and $00
otherwise; the two product reads answer bytes lo and hi with 256 hi + lo the product of mul_a
and mul_b; for an address of $5C00 to $5FFF the ExRAM read answers exram[addr - $5C00] and the
write stores exactly that byte where the 1024 bytes are present; nothing else changes,
sram_dirty included. (45_mmc5.md (IRQ and multiplier registers; ExRAM and audio),
92_eei_decisions.md D30, 92_eei_decisions.md D32, 92_eei_decisions.md D33) -/
def Obligations.Mmc5StatusProductAndExram : Prop :=
  ∀ (s : State) (a : Word) (v : Byte),
    exec (.mmc5IrqStatus a) s = .next { s with
      answer := .byte (if s.regs.mmc5.irqPending then 0x80 else 0x00) } ∧
    (∃ lo hi : Byte,
      exec (.mmc5MulLo a) s = .next { s with answer := .byte lo } ∧
      exec (.mmc5MulHi a) s = .next { s with answer := .byte hi } ∧
      256 * hi.toNat + lo.toNat = s.regs.mmc5.mulA.toNat * s.regs.mmc5.mulB.toNat) ∧
    (0x5C00 ≤ a → a ≤ 0x5FFF →
      exec (.mmc5ExramRead a) s =
        .next { s with answer := .byte (s.exram.read (a.toNat - 0x5C00)) } ∧
      ∃ m, exec (.mmc5ExramWrite a v) s = .next { s with exram := m, answer := .nothing } ∧
        (s.exram.size = exramSize → Stored s.exram m (a.toNat - 0x5C00) v))

/-- For every state, address and value: a read at $8000-$FFFF answers the ROM or RAM bank r[6:0] div
(size div 8K) of its window; a write there stores one PRG-RAM byte where the window shows RAM
and ram_protect1 is 2 and ram_protect2 is 1, and changes nothing otherwise; $6000-$7FFF reads
PRG-RAM bank prg_reg[0] always and stores there where unlocked. (45_mmc5.md (PRG windows),
92_eei_decisions.md D29) -/
def Obligations.Mmc5PrgWindowsFollowTheModeTable : Prop :=
  ∀ (s : State) (a : Word) (v : Byte),
    let p := s.regs.mmc5.prgMode
    let w := (a.extractLsb 14 13).toNat
    let k := mmc5WindowReg p w
    let size := mmc5WindowSize p w
    let r : Byte := s.regs.mmc5.prgReg[k]?.getD 0
    let b := r.toNat % 128 / (size / k8)
    let rom := k = 4 ∨ r.getLsbD 7 = true
    let unlocked := s.regs.mmc5.ramProtect1 = 2 ∧ s.regs.mmc5.ramProtect2 = 1
    let b0 := s.regs.mmc5.prgReg[0].toNat
    (∃ x, exec (.mmc5PrgRead a) s = .next { s with answer := .byte x } ∧
      (rom → x = prgRomBank s b size a) ∧ (¬rom → x = prgRamBank s b size a)) ∧
    exec (.mmc5PrgramRead a) s =
      .next { s with answer := .byte (prgRamBank s b0 k8 a) } ∧
    (∃ t, exec (.mmc5PrgWrite a v) s = .next { t with answer := .nothing } ∧
      (¬rom ∧ unlocked → PrgRamStored s t b size a v) ∧ (rom ∨ ¬unlocked → t = s)) ∧
    (∃ t, exec (.mmc5PrgramWrite a v) s = .next { t with answer := .nothing } ∧
      (unlocked → PrgRamStored s t b0 k8 a v) ∧ (¬unlocked → t = s))

/-- For every state, address and value: in chr_mode m the bank is chr_reg[7], chr_reg[3] or [7] by
addr[12], chr_reg[2 addr[12:11] + 1] or chr_reg[addr[12:10]], of size 8K, 4K, 2K or 1K; the read
answers that byte, the write stores exactly it; nothing else changes. (45_mmc5.md (CHR windows),
92_eei_decisions.md D28) -/
def Obligations.Mmc5ChrWindowsUseSetA : Prop :=
  ∀ (s : State) (a : ChrAddr) (v : Byte),
    let m := s.regs.mmc5.chrMode
    let w : Nat × Nat :=
      if m = 0 then (7, k8)
      else if m = 1 then (4 * (a.toNat / k4) + 3, k4)
      else if m = 2 then (2 * (a.toNat / k2) + 1, k2)
      else (a.toNat / k1, k1)
    let b := (s.regs.mmc5.chrReg[w.1]?.getD 0).toNat
    exec (.mmc5ChrRead a) s = .next { s with answer := .byte (chrBank s b w.2 a) } ∧
    ∃ t, exec (.mmc5ChrWrite a v) s = .next { t with answer := .nothing } ∧
      ChrStored s t b w.2 a v

/-- For every state and scanline number: on MMC5 pending and one trigger are raised exactly where
the IRQ is enabled and the number equals the target; on FDS the timer ticks run
FDS_TICKS_PER_SCANLINE times; on VRC6, VRC6a and VRC7 the up-counter counts where irq_ctrl[1] is
set and, at $FF, reloads and raises; on the other ten kinds nothing changes. (40_facade.md
(Control transactions), 45_mmc5.md (Scanline IRQ), 46_vrc6_vrc7.md (Shared VRC IRQ counter),
47_fds.md (IRQ timer), 92_eei_decisions.md D32, 92_eei_decisions.md D38, 92_eei_decisions.md
D43, 92_eei_decisions.md D49) -/
def Obligations.ScanlineHookByKind : Prop :=
  ∀ (s : State) (n : Word),
    let q6 := s.regs.vrc6.irq
    let q7 := s.regs.vrc7.irq
    let hit : Bool := s.regs.mmc5.irqEnable && n.toNat == s.regs.mmc5.irqScanline.toNat
    (s.image.kind = .mmc5 → notifyScanline n s = .next { s with
      regs.mmc5.irqPending := if hit then true else s.regs.mmc5.irqPending
      triggers := if hit then s.triggers + 1 else s.triggers
      answer := .nothing }) ∧
    (s.image.kind = .fds →
      notifyScanline n s = .next { fdsTicks s.image.fdsTicks s with answer := .nothing }) ∧
    ((s.image.kind = .vrc6 ∨ s.image.kind = .vrc6a) → notifyScanline n s =
      if q6.ctrl.getLsbD 1 = false then .next { s with answer := .nothing }
      else if q6.counter = 0xFF then .next { s with
        regs.vrc6.irq.counter := q6.latch
        regs.vrc6.irq.pending := true
        triggers := s.triggers + 1
        answer := .nothing }
      else .next { s with regs.vrc6.irq.counter := q6.counter + 1, answer := .nothing }) ∧
    (s.image.kind = .vrc7 → notifyScanline n s =
      if q7.ctrl.getLsbD 1 = false then .next { s with answer := .nothing }
      else if q7.counter = 0xFF then .next { s with
        regs.vrc7.irq.counter := q7.latch
        regs.vrc7.irq.pending := true
        triggers := s.triggers + 1
        answer := .nothing }
      else .next { s with regs.vrc7.irq.counter := q7.counter + 1, answer := .nothing }) ∧
    (s.image.kind ∉ ([.mmc5, .fds, .vrc6, .vrc6a, .vrc7] : List Kind) →
      notifyScanline n s = .next { s with answer := .nothing })

/-- For every state, address and value and both kinds: PRG16 stores value[3:0], PRG8 value[4:0],
CTRL the byte with mirror_mode by value[3:2] unless four-screen, IRQ_LATCH the byte; the ignored
writes change nothing; nothing else changes. (46_vrc6_vrc7.md (VRC6 and VRC6a),
92_eei_decisions.md D37, 92_eei_decisions.md D38) -/
def Obligations.Vrc6RegisterWritesStoreTheirField : Prop :=
  ∀ (s : State) (a : Word) (v : Byte),
    (∀ i ∈ ([.vrc6Prg16 a v, .vrc6aPrg16 a v] : List Instr), exec i s =
      .next { s with regs.vrc6.prg16 := v.extractLsb 3 0, answer := .nothing }) ∧
    (∀ i ∈ ([.vrc6Prg8 a v, .vrc6aPrg8 a v] : List Instr), exec i s =
      .next { s with regs.vrc6.prg8 := v.extractLsb 4 0, answer := .nothing }) ∧
    (∀ i ∈ ([.vrc6Ctrl a v, .vrc6aCtrl a v] : List Instr), exec i s =
      .next { s with
        regs.vrc6.ctrl := v
        mirrorMode :=
          mirrored s (([.vertical, .horizontal, .singleA, .singleB] : List Mirror).getD
            (v.extractLsb 3 2).toNat s.mirrorMode)
        answer := .nothing }) ∧
    (∀ i ∈ ([.vrc6IrqLatch a v, .vrc6aIrqLatch a v] : List Instr), exec i s =
      .next { s with regs.vrc6.irq.latch := v, answer := .nothing }) ∧
    (∀ i ∈ ([.vrc6IgnoredA003 a v, .vrc6IgnoredF003 a v, .vrc6aIgnoredA003 a v,
        .vrc6aIgnoredF003 a v] : List Instr), exec i s = .next { s with answer := .nothing })

/-- For every state, address and value: VRC6 stores audio[k] at $9xxx and chr[k], chr[4 + k] at
$Dxxx, $Exxx with k = addr[1:0]; VRC6a the same with k = 2 addr[0] + addr[1]; the six rows
$A000-$A002 and $B000-$B002 of each kind store audio[4] to audio[9]; the other registers of the
array and the rest of the state are unchanged. (46_vrc6_vrc7.md (VRC6 and VRC6a),
92_eei_decisions.md D35, 92_eei_decisions.md D36, 92_eei_decisions.md D37) -/
def Obligations.Vrc6ArrayWritesFollowTheSwappedPins : Prop :=
  ∀ (s : State) (a : Word) (v : Byte),
    let k6 := a.toNat % 4
    let k6a := 2 * (a.toNat % 2) + a.toNat / 2 % 2
    (∀ x ∈ ([(.vrc6Audio9 a v, k6), (.vrc6aAudio9 a v, k6a), (.vrc6AudioA0 a v, 4),
        (.vrc6aAudioA0 a v, 4), (.vrc6AudioA1 a v, 5), (.vrc6aAudioA1 a v, 5),
        (.vrc6AudioA2 a v, 6), (.vrc6aAudioA2 a v, 6), (.vrc6AudioB0 a v, 7),
        (.vrc6aAudioB0 a v, 7), (.vrc6AudioB1 a v, 8), (.vrc6aAudioB1 a v, 8),
        (.vrc6AudioB2 a v, 9), (.vrc6aAudioB2 a v, 9)] : List (Instr × Nat)),
      ∃ r, exec x.1 s = .next { s with regs.vrc6.audio := r, answer := .nothing } ∧
        RegStored s.regs.vrc6.audio r x.2 v) ∧
    (∀ x ∈ ([(.vrc6ChrD a v, k6), (.vrc6ChrE a v, 4 + k6), (.vrc6aChrD a v, k6a),
        (.vrc6aChrE a v, 4 + k6a)] : List (Instr × Nat)),
      ∃ r, exec x.1 s = .next { s with regs.vrc6.chr := r, answer := .nothing } ∧
        RegStored s.regs.vrc6.chr r x.2 v)

/-- For every state, address and value: control stores value[2:0], loads the counter from the latch
where value[1] is set, and clears pending; acknowledge clears pending and makes irq_ctrl[1]
equal irq_ctrl[0]; the latch and everything else are unchanged. (46_vrc6_vrc7.md (VRC6 and
VRC6a; VRC7), 92_eei_decisions.md D13, 92_eei_decisions.md D38, 92_eei_decisions.md D39) -/
def Obligations.VrcIrqControlAndAcknowledgeWrites : Prop :=
  ∀ (s : State) (a : Word) (v : Byte),
    let control (q : VrcIrq) : VrcIrq :=
      { latch := q.latch, ctrl := v.extractLsb 2 0,
        counter := if v.getLsbD 1 then q.latch else q.counter, pending := false }
    (∀ i ∈ ([.vrc6IrqControl a v, .vrc6aIrqControl a v] : List Instr), exec i s =
      .next { s with regs.vrc6.irq := control s.regs.vrc6.irq, answer := .nothing }) ∧
    exec (.vrc7IrqControl a v) s =
      .next { s with regs.vrc7.irq := control s.regs.vrc7.irq, answer := .nothing } ∧
    (∀ i ∈ ([.vrc6IrqAck a v, .vrc6aIrqAck a v] : List Instr),
      ∃ c : BitVec 3, exec i s =
          .next { s with regs.vrc6.irq.ctrl := c, regs.vrc6.irq.pending := false,
                         answer := .nothing } ∧
        c.getLsbD 0 = s.regs.vrc6.irq.ctrl.getLsbD 0 ∧
        c.getLsbD 1 = s.regs.vrc6.irq.ctrl.getLsbD 0 ∧
        c.getLsbD 2 = s.regs.vrc6.irq.ctrl.getLsbD 2) ∧
    (∀ i ∈ ([.vrc7IrqAck a v, .vrc7IrqAckA4 a v] : List Instr),
      ∃ c : BitVec 3, exec i s =
          .next { s with regs.vrc7.irq.ctrl := c, regs.vrc7.irq.pending := false,
                         answer := .nothing } ∧
        c.getLsbD 0 = s.regs.vrc7.irq.ctrl.getLsbD 0 ∧
        c.getLsbD 1 = s.regs.vrc7.irq.ctrl.getLsbD 0 ∧
        c.getLsbD 2 = s.regs.vrc7.irq.ctrl.getLsbD 2)

/-- For every state, address and value: the read answers the PRG-RAM byte where ctrl[7] is set and 0
otherwise; the write stores exactly that byte and sets sram_dirty where ctrl[7] is set, and
changes nothing otherwise. (46_vrc6_vrc7.md (VRC6 and VRC6a; VRC7), 92_eei_decisions.md D37,
92_eei_decisions.md D39, 92_eei_decisions.md D40) -/
def Obligations.VrcPrgRamIsGatedByCtrlBit7 : Prop :=
  ∀ (s : State) (a : Word) (v : Byte),
    (∀ x ∈ ([(.vrc6PrgramRead a, s.regs.vrc6.ctrl), (.vrc6aPrgramRead a, s.regs.vrc6.ctrl),
        (.vrc7PrgramRead a, s.regs.vrc7.ctrl)] : List (Instr × Byte)),
      exec x.1 s = .next { s with
        answer := .byte (if x.2.getLsbD 7 then prgRamBank s 0 k8 a else 0) }) ∧
    (∀ x ∈ ([(.vrc6PrgramWrite a v, s.regs.vrc6.ctrl), (.vrc6aPrgramWrite a v, s.regs.vrc6.ctrl),
        (.vrc7PrgramWrite a v, s.regs.vrc7.ctrl)] : List (Instr × Byte)),
      ∃ t, exec x.1 s = .next { t with answer := .nothing } ∧
        if x.2.getLsbD 7 then PrgRamStored s t 0 k8 a v else t = s)

/-- For every state, addresses and value: VRC6 and VRC6a answer the 16K bank prg16 where addr[14] is
clear, else the 8K bank prg8 where addr[13] is clear, else the last 8K bank; VRC7 answers the 8K
bank prg[w], w = addr[14:13], or the last one where w is 3; a CHR read of the three kinds
answers the 1K bank chr[addr div 1K], a CHR write stores exactly that byte of CHR-RAM, or
nothing on CHR-ROM; nothing else changes. (46_vrc6_vrc7.md (VRC6 and VRC6a; VRC7),
92_eei_decisions.md D37, 92_eei_decisions.md D39) -/
def Obligations.VrcPrgAndChrWindows : Prop :=
  ∀ (s : State) (p : Word) (a : ChrAddr) (v : Byte),
    let last := nbanks s.image.prgRom.size k8 - 1
    let r7 := s.regs.vrc7.prg
    let b6 := (s.regs.vrc6.chr[a.toNat / 0x400]?.getD 0).toNat
    let b7 := (s.regs.vrc7.chr[a.toNat / 0x400]?.getD 0).toNat
    (∀ i ∈ ([.vrc6PrgRead p, .vrc6aPrgRead p] : List Instr), exec i s = .next { s with
      answer := .byte (
        if p.getLsbD 14 = false then prgRomBank s s.regs.vrc6.prg16.toNat k16 p
        else if p.getLsbD 13 = false then prgRomBank s s.regs.vrc6.prg8.toNat k8 p
        else prgRomBank s last k8 p) }) ∧
    exec (.vrc7PrgRead p) s = .next { s with
      answer := .byte (prgRomBank s (
        if p.extractLsb 14 13 = 0 then r7[0].toNat
        else if p.extractLsb 14 13 = 1 then r7[1].toNat
        else if p.extractLsb 14 13 = 2 then r7[2].toNat
        else last) k8 p) } ∧
    (∀ x ∈ ([(.vrc6ChrRead a, b6), (.vrc6aChrRead a, b6), (.vrc7ChrRead a, b7)] :
        List (Instr × Nat)),
      exec x.1 s = .next { s with answer := .byte (chrBank s x.2 k1 a) }) ∧
    (∀ x ∈ ([(.vrc6ChrWrite a v, b6), (.vrc6aChrWrite a v, b6), (.vrc7ChrWrite a v, b7)] :
        List (Instr × Nat)),
      ∃ t, exec x.1 s = .next { t with answer := .nothing } ∧ ChrStored s t x.2 k1 a v)

/-- For every state, address and value: PRG rows store value[5:0] in prg[0], prg[1] or prg[2], CHR
rows the byte in chr[0] to chr[7], audio data the byte in audio_data[audio_index[5:0]], each
leaving the other registers of the array; audio index and IRQ latch rows store the byte; CTRL
stores the byte with mirror_mode by value[1:0] unless four-screen; $9008 does nothing; nothing
else changes. (46_vrc6_vrc7.md (VRC7), 92_eei_decisions.md D35, 92_eei_decisions.md D38,
92_eei_decisions.md D39) -/
def Obligations.Vrc7RegisterWritesStoreTheirField : Prop :=
  ∀ (s : State) (a : Word) (v : Byte),
    (∀ x ∈ ([(.vrc7Prg0 a v, 0), (.vrc7Prg1 a v, 1), (.vrc7Prg1A4 a v, 1),
        (.vrc7Prg2 a v, 2)] : List (Instr × Nat)),
      ∃ r, exec x.1 s = .next { s with regs.vrc7.prg := r, answer := .nothing } ∧
        RegStored s.regs.vrc7.prg r x.2 (v.extractLsb 5 0)) ∧
    (∀ x ∈ ([(.vrc7ChrALo a v, 0), (.vrc7ChrAHi a v, 1), (.vrc7ChrAHiA4 a v, 1),
        (.vrc7ChrBLo a v, 2), (.vrc7ChrBHi a v, 3), (.vrc7ChrBHiA4 a v, 3),
        (.vrc7ChrCLo a v, 4), (.vrc7ChrCHi a v, 5), (.vrc7ChrCHiA4 a v, 5),
        (.vrc7ChrDLo a v, 6), (.vrc7ChrDHi a v, 7), (.vrc7ChrDHiA4 a v, 7)] : List (Instr × Nat)),
      ∃ r, exec x.1 s = .next { s with regs.vrc7.chr := r, answer := .nothing } ∧
        RegStored s.regs.vrc7.chr r x.2 v) ∧
    (∃ r, exec (.vrc7AudioData a v) s =
        .next { s with regs.vrc7.audioData := r, answer := .nothing } ∧
      RegStored s.regs.vrc7.audioData r (s.regs.vrc7.audioIndex.toNat % 64) v) ∧
    exec (.vrc7AudioIndex a v) s =
      .next { s with regs.vrc7.audioIndex := v, answer := .nothing } ∧
    (∀ i ∈ ([.vrc7IrqLatch a v, .vrc7IrqLatchA4 a v] : List Instr), exec i s =
      .next { s with regs.vrc7.irq.latch := v, answer := .nothing }) ∧
    exec (.vrc7Ctrl a v) s = .next { s with
      regs.vrc7.ctrl := v
      mirrorMode :=
        mirrored s (([.vertical, .horizontal, .singleA, .singleB] : List Mirror).getD
          (v.extractLsb 1 0).toNat s.mirrorMode)
      answer := .nothing } ∧
    exec (.vrc7IgnoredWrite a v) s = .next { s with answer := .nothing }

/-- From every state with a VRC cartridge, counting enabled and counter c: after fewer than 256 - c
scanline calls, whatever their numbers, the level and the triggers are as before; after exactly
256 - c calls the interrupt is pending, one trigger was emitted and the counter is the latch.
(46_vrc6_vrc7.md (Shared VRC IRQ counter), 92_eei_decisions.md D38, 92_eei_decisions.md D49) -/
def Obligations.VrcCounterFiresWhenItPassesFf : Prop :=
  ∀ (s : State) (q : State → VrcIrq),
    (q = (fun t => t.regs.vrc6.irq) ∧ (s.image.kind = .vrc6 ∨ s.image.kind = .vrc6a) ∨
      q = (fun t => t.regs.vrc7.irq) ∧ s.image.kind = .vrc7) →
    s.present = true → (q s).ctrl.getLsbD 1 = true →
    ∀ ns : List Word,
      (ns.length < 256 - (q s).counter.toNat → ∃ t, run (ns.map .scanline) s = some t ∧
        level t = level s ∧ t.triggers = s.triggers ∧
        (q t).counter.toNat = (q s).counter.toNat + ns.length) ∧
      (ns.length = 256 - (q s).counter.toNat → ∃ t, run (ns.map .scanline) s = some t ∧
        level t = true ∧ t.triggers = s.triggers + 1 ∧ (q t).counter = (q s).latch)

/-- For every state, address and value: RAM reads answer PRG_RAM[(addr - $6000) mod PRG_RAM_SIZE];
RAM writes store exactly that byte and set sram_dirty; BIOS reads answer PRG_ROM[(addr mod 8K)
mod PRG_ROM_SIZE] within the first 8K and BIOS writes change nothing; $4030 answers irq_pending
in bit 0 without clearing it, $4031, $4032 and $4033 answer $00, $07 and $80. (47_fds.md (Memory
map; Read registers), 92_eei_decisions.md D10, 92_eei_decisions.md D41, 92_eei_decisions.md D42) -/
def Obligations.FdsRamAndFixedReads : Prop :=
  ∀ (s : State) (a : Word) (v : Byte),
    (∀ i ∈ ([.fdsRamRead6 a, .fdsRamRead8 a, .fdsRamReadC a] : List Instr), exec i s = .next { s with
      answer := .byte (s.prgRam.read ((a.toNat - 0x6000) % s.prgRam.size)) }) ∧
    (∀ i ∈ ([.fdsRamWrite6 a v, .fdsRamWrite8 a v, .fdsRamWriteC a v] : List Instr),
      ∃ m, exec i s =
          .next { s with prgRam := m, sramDirty := true, answer := .nothing } ∧
        (s.prgRam.size ≠ 0 → Stored s.prgRam m ((a.toNat - 0x6000) % s.prgRam.size) v)) ∧
    exec (.fdsBiosRead a) s = .next { s with
      answer := .byte (s.image.prgRom.read (a.toNat % 0x2000 % s.image.prgRom.size)) } ∧
    exec (.fdsBiosWrite a v) s = .next { s with answer := .nothing } ∧
    exec (.fdsDiskStatus a) s = .next { s with
      answer := .byte (if s.regs.fds.irqPending then 0x01 else 0x00) } ∧
    exec (.fdsReadData a) s = .next { s with answer := .byte 0x00 } ∧
    exec (.fdsDriveStatus a) s = .next { s with answer := .byte 0x07 } ∧
    exec (.fdsExtIn a) s = .next { s with answer := .byte 0x80 }

/-- For every state, address and value: $4020 and $4021 replace one byte of timer_reload; $4022
stores value[1:0], loads the counter where value[1] and master_io[0] are set, and clears pending
where value[1] is clear; $4023 stores value[1:0] and, where value[0] is clear, clears
timer_ctrl[1] and pending; $4024, $4025 (with mirror_mode by value[3] unless four-screen) and
$4026 store the byte; nothing else changes. (47_fds.md (Write registers), 92_eei_decisions.md
D13, 92_eei_decisions.md D42) -/
def Obligations.FdsRegisterWritesStoreTheirField : Prop :=
  ∀ (s : State) (a : Word) (v : Byte),
    let f := s.regs.fds
    (∃ r, exec (.fdsTimerReloadLo a v) s =
        .next { s with regs.fds.timerReload := r, answer := .nothing } ∧
      r.extractLsb 7 0 = v ∧ r.extractLsb 15 8 = f.timerReload.extractLsb 15 8) ∧
    (∃ r, exec (.fdsTimerReloadHi a v) s =
        .next { s with regs.fds.timerReload := r, answer := .nothing } ∧
      r.extractLsb 15 8 = v ∧ r.extractLsb 7 0 = f.timerReload.extractLsb 7 0) ∧
    exec (.fdsTimerCtrl a v) s = .next { s with
      regs.fds.timerCtrl := v.extractLsb 1 0
      regs.fds.timerCounter :=
        if v.getLsbD 1 && f.masterIo.getLsbD 0 then f.timerReload else f.timerCounter
      regs.fds.irqPending := v.getLsbD 1 && f.irqPending
      answer := .nothing } ∧
    (∃ c : BitVec 2, exec (.fdsMasterIo a v) s = .next { s with
        regs.fds.masterIo := v.extractLsb 1 0
        regs.fds.timerCtrl := c
        regs.fds.irqPending := v.getLsbD 0 && f.irqPending
        answer := .nothing } ∧
      c.getLsbD 0 = f.timerCtrl.getLsbD 0 ∧
      c.getLsbD 1 = (v.getLsbD 0 && f.timerCtrl.getLsbD 1)) ∧
    exec (.fdsWriteData a v) s =
      .next { s with regs.fds.writeData := v, answer := .nothing } ∧
    exec (.fdsControl a v) s = .next { s with
      regs.fds.fdsCtrl := v
      mirrorMode := mirrored s (if v.getLsbD 3 then .horizontal else .vertical)
      answer := .nothing } ∧
    exec (.fdsExtOut a v) s = .next { s with regs.fds.extOut := v, answer := .nothing }

/-- For every state and value, and every address of the row: $4040-$407F stores value[5:0] in
wave_ram[addr - $4040] and reads it back zero-extended; $4080-$4087, $4088-$4089 and $408A store
audio[addr - $4080]; the other registers of the array and the rest of the state are unchanged.
(47_fds.md (Expansion audio storage), 92_eei_decisions.md D35, 92_eei_decisions.md D42) -/
def Obligations.FdsWaveAndAudioStorage : Prop :=
  ∀ (s : State) (a : Word) (v : Byte),
    (0x4040 ≤ a → a ≤ 0x407F →
      (∃ r, exec (.fdsWaveWrite a v) s =
          .next { s with regs.fds.waveRam := r, answer := .nothing } ∧
        RegStored s.regs.fds.waveRam r (a.toNat - 0x4040) (v.extractLsb 5 0)) ∧
      exec (.fdsWaveRead a) s = .next { s with
        answer := .byte ((s.regs.fds.waveRam[a.toNat - 0x4040]?.getD 0).setWidth 8) }) ∧
    (0x4080 ≤ a → a ≤ 0x4087 → ∃ r, exec (.fdsAudioWrite a v) s =
        .next { s with regs.fds.audio := r, answer := .nothing } ∧
      RegStored s.regs.fds.audio r (a.toNat - 0x4080) v) ∧
    (0x4088 ≤ a → a ≤ 0x4089 → ∃ r, exec (.fdsAudioWriteHi a v) s =
        .next { s with regs.fds.audio := r, answer := .nothing } ∧
      RegStored s.regs.fds.audio r (a.toNat - 0x4080) v) ∧
    (∃ r, exec (.fdsAudioWriteTop a v) s =
        .next { s with regs.fds.audio := r, answer := .nothing } ∧
      RegStored s.regs.fds.audio r 10 v)

/-- From every state with timer_ctrl[1] and master_io[0] set and counter n: k ticks with k at most n
leave the counter n - k and raise nothing; n + 1 ticks raise pending and one trigger, and leave
the counter at the reload value where timer_ctrl[0] is set, or the timer stopped where it is
clear, after which no number of ticks raises anything. (47_fds.md (IRQ timer),
92_eei_decisions.md D42, 92_eei_decisions.md D43) -/
def Obligations.FdsTimerFiresAfterReloadPlusOneTicks : Prop :=
  ∀ s : State, s.regs.fds.timerCtrl.getLsbD 1 = true → s.regs.fds.masterIo.getLsbD 0 = true →
    let n := s.regs.fds.timerCounter.toNat
    let t := fdsTicks (n + 1) s
    (∀ k ≤ n, (fdsTicks k s).regs.fds.timerCounter.toNat = n - k ∧
      (fdsTicks k s).regs.fds.irqPending = s.regs.fds.irqPending ∧
      (fdsTicks k s).triggers = s.triggers) ∧
    t.regs.fds.irqPending = true ∧ t.triggers = s.triggers + 1 ∧
    (s.regs.fds.timerCtrl.getLsbD 0 = true →
      t.regs.fds.timerCounter = s.regs.fds.timerReload ∧
      t.regs.fds.timerCtrl.getLsbD 1 = true) ∧
    (s.regs.fds.timerCtrl.getLsbD 0 = false →
      t.regs.fds.timerCtrl.getLsbD 1 = false ∧ ∀ k, fdsTicks k t = t)

/-- Fifteen transactions, one per mapper kind, with the addresses and values written out from the
match and mask of their row, decode to that row; an undecoded address and one below $4020 are
rejected by name. (30_encoding.md (Formats), 40_facade.md (Construction)) -/
def Obligations.DecodingReadsTheWrittenTransactions : Prop :=
  decode .nrom (.cpuRead 0xC123) = .ok (.nromPrgRead 0xC123) ∧
  decode .uxrom (.cpuWrite 0xC000 0x0A) = .ok (.uxromBankWrite 0xC000 0x0A) ∧
  decode .camerica (.cpuRead 0xBFFF) = .ok (.camericaPrgReadLow 0xBFFF) ∧
  decode .cnrom (.chrRead 0x3FFF) = .ok (.cnromChrRead 0x1FFF) ∧
  decode .colorDreams (.cpuWrite 0x8000 0x21) = .ok (.colorDreamsBankWrite 0x8000 0x21) ∧
  decode .axrom (.cpuWrite 0xFFFF 0x13) = .ok (.axromBankWrite 0xFFFF 0x13) ∧
  decode .mmc1 (.cpuWrite 0xE000 0x80) = .ok (.mmc1ResetWrite 0xE000 0x80) ∧
  decode .mmc3 (.cpuWrite 0x9FFF 0x07) = .ok (.mmc3BankData 0x9FFF 0x07) ∧
  decode .mmc2 (.cpuWrite 0xBFFF 0x04) = .ok (.mmc2ChrFd0 0xBFFF 0x04) ∧
  decode .mmc4 (.cpuRead 0x8000) = .ok (.mmc4PrgRead 0x8000) ∧
  decode .mmc5 (.cpuWrite 0x5015 0x03) = .ok (.mmc5AudioWriteTop 0x5015 0x03) ∧
  decode .vrc6 (.cpuWrite 0xF001 0x02) = .ok (.vrc6IrqControl 0xF001 0x02) ∧
  decode .vrc6a (.cpuWrite 0xF001 0x02) = .ok (.vrc6aIrqAck 0xF001 0x02) ∧
  decode .vrc7 (.cpuWrite 0xD010 0x3F) = .ok (.vrc7ChrDHiA4 0xD010 0x3F) ∧
  decode .fds (.cpuWrite 0x408A 0xE8) = .ok (.fdsAudioWriteTop 0x408A 0xE8) ∧
  decode .mmc5 (.cpuRead 0x5104) = .error .unmapped ∧
  decode .fds (.cpuRead 0x401F) = .error .belowContract

/-- For every kind, transaction and instruction: decode answers the instruction if and only if the
instruction belongs to the kind, its operands fit the pattern of its row, and it is the
transaction with a PPU address reduced to bits 12:0. Decoding therefore inverts the encoding of
every well-formed instruction, at every operand, and no other instruction is ever read.
(30_encoding.md (Formats), 40_facade.md (Construction), 92_eei_decisions.md D5) -/
def Obligations.DecodeReadsExactlyTheWellFormedRows : Prop :=
  ∀ (k : Kind) (b : Bus) (i : Instr),
    decode k b = .ok i ↔ i.kind = k ∧ i.wellFormed = true ∧ i.bus = b.truncated

/-- For every well-formed instruction and every bytes after it: decodeBytes of its encoding followed
by those bytes answers the instruction and those bytes. The byte form is the model's own, log
entry 11; the spec has none. (30_encoding.md (Formats)) -/
def Obligations.ByteFormRoundTrips : Prop :=
  ∀ (i : Instr) (rest : List Byte), i.wellFormed = true →
    decodeBytes (encode i ++ rest) = .ok (i, rest)

/-- For every kind, address and value: two rows at different places of the kind's CPU read list, or
of its CPU write list, never both accept them, so decoding does not depend on the order of rows.
(30_encoding.md (Formats), 92_eei_decisions.md D5) -/
def Obligations.RowsOfOneKindAndFormatNeverOverlap : Prop :=
  ∀ (k : Kind) (a : Word) (v : Byte), ∀ rows ∈ [cpuReadRows k, cpuWriteRows k],
    rows.Pairwise fun p q => ¬(p.accepts a v = true ∧ q.accepts a v = true)

/-- For every state with a cartridge and a pending request, step runs the oldest one on the state
without it: a bus transaction that decodes to i is exec of i; one that decodes to nothing
answers 0 for a read and nothing for a write and changes nothing else; scanline, reset,
irq_state, irq_clear, host_save, host_load, shutdown and construct are notifyScanline,
resetCartridge, irqState, irqClear, hostSave, hostLoad, shutdown and construct. A construct
request is so served without a cartridge too. With no pending request a step changes nothing.
For every table word that decodes to i, step after withFetchWord is exec of i on the state with
a cartridge of i's kind. The request queue (log entries 1, 5), construct on a present cartridge
(log entry 7) and the word form (log entries 11, 12) are the model's own. (30_encoding.md
(Formats), 40_facade.md (Construction; Bus transactions; Control transactions; Host boundary:
SRAM persistence), 20_memory.md (Shared windows; Ordering, fences, fetch coherence, caches)) -/
def Obligations.StepRunsTheDecodedTransaction : Prop :=
  (∀ (s : State) (r : Request) (rest : List Request), s.present = true →
    s.requests = r :: rest →
    let u := { s with requests := rest }
    step s = match r with
      | .bus b =>
        match decode s.image.kind b with
        | .ok i => exec i u
        | .error _ =>
          match b with
          | .cpuRead _ => .next { u with answer := .byte 0 }
          | .cpuWrite _ _ => .next { u with answer := .nothing }
          | .chrRead _ => .next { u with answer := .byte 0 }
          | .chrWrite _ _ => .next { u with answer := .nothing }
      | .scanline n => notifyScanline n u
      | .reset => resetCartridge u
      | .irqState => irqState u
      | .irqClear => irqClear u
      | .construct m => construct m u
      | .hostSave ioOk => hostSave ioOk u
      | .hostLoad d => hostLoad d u
      | .shutdown => shutdown u) ∧
  (∀ (s : State) (m : Metadata) (rest : List Request), s.requests = .construct m :: rest →
    step s = construct m { s with requests := rest }) ∧
  (∀ s : State, s.requests = [] → step s = .next s) ∧
  ∀ (s : State) (nbits w : Nat) (i : Instr), decodeTableWord nbits w = some i →
    step (s.withFetchWord nbits w) = exec i (withKind i.kind s)

/-- For every state and address: a CPU read transaction succeeds with some byte and changes nothing
but the answer; below $4020 and where no row of the kind matches the byte is 0; otherwise it is
the answer of the row's instruction. (R410) -/
def Obligations.CpuReadsChangeNothingButTheAnswer : Prop :=
  ∀ (s : State) (a : Word), ∃ v,
    serveBus (.cpuRead a) s = .next { s with answer := .byte v } ∧
    (a < 0x4020 → v = 0) ∧
    ((∀ r ∈ cpuReadRows s.image.kind, r.accepts a 0 = false) → v = 0) ∧
    (∀ i, decode s.image.kind (.cpuRead a) = .ok i →
      exec i s = .next { s with answer := .byte v })

/-- For every state, address and value: below $4020 and where no row of the kind matches, a CPU
write changes nothing; where it decodes to i it is exec of i; in every case it succeeds, answers
nothing, and leaves the image (both ROMs included), CHR-RAM, the trigger count and the pending
requests as they were. (R411) -/
def Obligations.CpuWritesRunTheirRowOrChangeNothing : Prop :=
  ∀ (s : State) (a : Word) (v : Byte),
    (a < 0x4020 → serveBus (.cpuWrite a v) s = .next { s with answer := .nothing }) ∧
    ((∀ r ∈ cpuWriteRows s.image.kind, r.accepts a v = false) →
      serveBus (.cpuWrite a v) s = .next { s with answer := .nothing }) ∧
    (∀ i, decode s.image.kind (.cpuWrite a v) = .ok i →
      serveBus (.cpuWrite a v) s = exec i s) ∧
    ∃ t, serveBus (.cpuWrite a v) s = .next t ∧ t.answer = .nothing ∧ t.present = s.present ∧
      t.image = s.image ∧ t.chrRam = s.chrRam ∧ t.triggers = s.triggers ∧
      t.requests = s.requests

/-- For every state and address: a CHR read is exec of the kind's CHR read row at addr[12:0] and
succeeds with some byte; on MMC2 and MMC4 it changes at most the two latches, on MMC3 at most
last_a12, the counter, the reload flag, pending and the trigger count, on every other kind
nothing. (R412) -/
def Obligations.ChrReadsMoveOnlyLatchesAndEdgeState : Prop :=
  ∀ (s : State) (a : Word),
    serveBus (.chrRead a) s = exec (chrReadInstr s.image.kind (a.setWidth 13)) s ∧
    ∃ v l0 l1 c rl pe a12 tr,
      serveBus (.chrRead a) s = .next
        (if s.image.kind = .mmc2 ∨ s.image.kind = .mmc4 then
          { s with regs.mmc24.latch0 := l0, regs.mmc24.latch1 := l1, answer := .byte v }
        else if s.image.kind = .mmc3 then
          { s with regs.mmc3.irqCounter := c, regs.mmc3.irqReload := rl,
                   regs.mmc3.irqPending := pe, regs.mmc3.lastA12 := a12, triggers := tr,
                   answer := .byte v }
        else { s with answer := .byte v })

/-- For every state, address and value: a CHR write is exec of the kind's CHR write row at
addr[12:0] and succeeds; it changes CHR-RAM in at most one byte, which becomes value, and not at
all where CHR-RAM is absent; beside that it changes, on MMC3 only, last_a12, the counter, the
reload flag, pending and the trigger count. (R413) -/
def Obligations.ChrWritesStoreRamOnlyAndDropOnRom : Prop :=
  ∀ (s : State) (a : Word) (v : Byte),
    serveBus (.chrWrite a v) s = exec (chrWriteInstr s.image.kind (a.setWidth 13) v) s ∧
    ∃ m c rl pe a12 tr,
      serveBus (.chrWrite a v) s = .next
        (if s.image.kind = .mmc3 then
          { s with chrRam := m, regs.mmc3.irqCounter := c, regs.mmc3.irqReload := rl,
                   regs.mmc3.irqPending := pe, regs.mmc3.lastA12 := a12, triggers := tr,
                   answer := .nothing }
        else { s with chrRam := m, answer := .nothing }) ∧
      (s.chrRam.size = 0 → m = s.chrRam) ∧
      (s.chrRam.size ≠ 0 → ∃ o, o < s.chrRam.size ∧ Stored s.chrRam m o v ∧
        ∀ u, exec (chrReadInstr s.image.kind (a.setWidth 13)) { s with chrRam := m } = .next u →
          u.answer = .byte v)

/-- For every state and instruction, exec answers a next state, with a byte for a read and no result
for a write; for every state with a cartridge and every request, handling it answers a next
state, never a fault or a refusal. The second part goes beyond the per-access rules: bus and
control transactions rest on R1200, the host operations and construct on their own rules, which
answer a result; that construct is served on a present cartridge is the model's choice, log
entry 7 (DEDUCED). (R1200, R1202, 60_exceptions.md (Synchronous exceptions and failures),
40_facade.md (Construction; Host boundary: SRAM persistence)) -/
def Obligations.NoTransactionOfACartridgeStops : Prop :=
  (∀ (i : Instr) (s : State), ∃ t, exec i s = .next t ∧
    match i.bus with
    | .cpuRead _ => ∃ v, t.answer = .byte v
    | .chrRead _ => ∃ v, t.answer = .byte v
    | .cpuWrite _ _ => t.answer = .nothing
    | .chrWrite _ _ => t.answer = .nothing) ∧
  (∀ (r : Request) (s : State), s.present = true → ∃ t, handle r s = .next t)

/-- For every state: reset succeeds, and a second reset of the state it leaves gives that same
state. (R1302) -/
def Obligations.ResetTwiceIsResetOnce : Prop :=
  ∀ s : State, ∃ t, resetCartridge s = .next t ∧ resetCartridge t = .next t

/-- RegFiles.reset is, written out, the reset column of every table R111 to R170: MMC1 control 0x0C,
MMC3 protect 0x80, both latches $FE, MMC5 PRG mode 3, prg_reg[1..4] and both multiplier inputs
0xFF, every other register of every kind 0 or false. From every state that meets the invariant
and has a cartridge, reset leaves all register files at those values, nothing pending,
mirror_mode at mirror_default, and the image, PRG-RAM, CHR-RAM, ExRAM, sram_dirty and triggers
as they were. (70_reset_and_hazards.md (Reset), 10_state.md, 92_eei_decisions.md D9,
92_eei_decisions.md D10, 92_eei_decisions.md D18, 92_eei_decisions.md D22, 92_eei_decisions.md
D24, 92_eei_decisions.md D26, 92_eei_decisions.md D34, 92_eei_decisions.md D40,
92_eei_decisions.md D44, 92_eei_decisions.md D46) -/
def Obligations.ResetRestoresRegistersAndKeepsMemory : Prop :=
  RegFiles.reset =
    { uxrom := { prgBank := 0 }
      cnrom := { chrBank := 0 }
      colorDreams := { prgBank := 0, chrBank := 0 }
      axrom := { prgBank := 0 }
      mmc1 := { shift := 0, shiftCount := 0, control := 0x0C, chr0 := 0, chr1 := 0, prg := 0 }
      mmc3 := { bankSelect := 0, r := #v[0, 0, 0, 0, 0, 0, 0, 0], mirroring := 0,
                prgRamProtect := 0x80, irqLatch := 0, irqCounter := 0, irqReload := false,
                irqEnable := false, irqPending := false, lastA12 := 0 }
      mmc24 := { prgBank := 0, chrFd0 := 0, chrFe0 := 0, chrFd1 := 0, chrFe1 := 0,
                 mirroring := 0, latch0 := .fe, latch1 := .fe }
      mmc5 := { prgMode := 3, chrMode := 0, ramProtect1 := 0, ramProtect2 := 0, exramMode := 0,
                ntMap := 0, fillTile := 0, fillAttr := 0,
                prgReg := #v[0x00, 0xFF, 0xFF, 0xFF, 0xFF],
                chrReg := #v[0, 0, 0, 0, 0, 0, 0, 0, 0, 0, 0, 0], chrUpper := 0,
                irqScanline := 0, irqEnable := false, irqPending := false, mulA := 0xFF,
                mulB := 0xFF, audio := Vector.replicate 22 0 }
      vrc6 := { prg16 := 0, prg8 := 0, chr := #v[0, 0, 0, 0, 0, 0, 0, 0], ctrl := 0,
                irq := { latch := 0, ctrl := 0, counter := 0, pending := false },
                audio := #v[0, 0, 0, 0, 0, 0, 0, 0, 0, 0] }
      vrc7 := { prg := #v[0, 0, 0], chr := #v[0, 0, 0, 0, 0, 0, 0, 0], ctrl := 0,
                irq := { latch := 0, ctrl := 0, counter := 0, pending := false },
                audioIndex := 0, audioData := Vector.replicate 64 0 }
      fds := { timerReload := 0, timerCounter := 0, timerCtrl := 0, masterIo := 0,
               writeData := 0, fdsCtrl := 0, extOut := 0, irqPending := false,
               waveRam := Vector.replicate 64 0, audio := Vector.replicate 11 0 } } ∧
  ∀ s : State, Inv s → s.present = true →
    ∃ t, resetCartridge s = .next t ∧ t.regs = RegFiles.reset ∧ level t = false ∧
      t.mirrorMode = s.image.mirrorDefault ∧ t.image = s.image ∧ t.prgRam = s.prgRam ∧
      t.chrRam = s.chrRam ∧ t.exram = s.exram ∧ t.sramDirty = s.sramDirty ∧
      t.triggers = s.triggers

/-- For every metadata and state: an empty PRG-ROM answers InvalidImage, else a number outside the
factory table Unsupported, else a failed needed allocation AllocFailure, each with no cartridge
afterwards; otherwise there is a cartridge of the factory's kind with every register at reset,
mirror_mode at its default, sram_dirty clear, and PRG-RAM, CHR-RAM and ExRAM all zero with the
sizes the spec gives (FDS RAM at least 32768). Two parts are the model's choice and no rule of
the spec: log entry 7 (DEDUCED), that construct is served while a cartridge exists, which is
replaced, or gone where it fails; and log entry 8 (DESIGN CHOICE), that one argument allocOk
says whether the allocations succeed and that a buffer of size 0 needs none. (40_facade.md
(Construction), 60_exceptions.md (Synchronous exceptions and failures), 70_reset_and_hazards.md
(Reset), 92_eei_decisions.md D7, 92_eei_decisions.md D46, 92_eei_decisions.md D55) -/
def Obligations.ConstructionFailsInOrderOrGivesPowerOn : Prop :=
  ∀ (m : Metadata) (s : State), ∃ t, construct m s = .next t ∧
    if m.prgRom.size = 0 then t.present = false ∧ t.answer = .failed .invalidImage
    else match factory m.mapperNumber with
      | none => t.present = false ∧ t.answer = .failed .unsupported
      | some k =>
        let size := if k = .fds then max fdsRamSize m.prgRamSize else m.prgRamSize
        if (size ≠ 0 ∨ m.chrRom.size = 0 ∨ k = .mmc5) ∧ m.allocOk = false then
          t.present = false ∧ t.answer = .failed .allocFailure
        else
          t.present = true ∧ t.answer = .cartridge ∧ t.image.kind = k ∧
          t.image.mapperNumber = m.mapperNumber ∧ t.image.hasBattery = m.hasBattery ∧
          t.image.mirrorDefault = m.mirrorDefault ∧
          t.image.prgRom.size = m.prgRom.size ∧ t.image.chrRom.size = m.chrRom.size ∧
          (m.prgRom.wf → t.image.prgRom = m.prgRom) ∧
          (m.chrRom.wf → t.image.chrRom = m.chrRom) ∧
          t.regs = RegFiles.reset ∧ t.mirrorMode = m.mirrorDefault ∧ t.sramDirty = false ∧
          t.prgRam.size = size ∧ (∀ o, t.prgRam.read o = 0) ∧
          t.chrRam.size = (if m.chrRom.size = 0 then 8192 else 0) ∧
          (∀ o, t.chrRam.read o = 0) ∧
          t.exram.size = (if k = .mmc5 then 1024 else 0) ∧ ∀ o, t.exram.read o = 0

/-- For every state: shutdown succeeds and leaves no cartridge; and in every state without one,
every request other than construct ends in the fault noCartridge, while construct is served. The
spec defines no transaction there; the fault is the model's, log entry 6. (40_facade.md
(Construction; Control transactions)) -/
def Obligations.NoCartridgeServesOnlyConstruction : Prop :=
  (∀ s : State, ∃ t, shutdown s = .next t ∧ t.present = false) ∧
  ∀ (r : Request) (s : State), s.present = false →
    (∀ m, r = .construct m → handle r s = construct m s) ∧
    ((∀ m, r ≠ .construct m) → handle r s = .fault .noCartridge)

/-- For every state: irq_state changes nothing but the answer, which is the irq_pending of the
active kind on MMC3, MMC5, VRC6, VRC6A, VRC7 and FDS and false on every other kind. (R416) -/
def Obligations.IrqStateReportsPendingWithoutClearing : Prop :=
  ∀ s : State, irqState s = .next { s with
    answer := .flag (
      if s.image.kind = .mmc3 then s.regs.mmc3.irqPending
      else if s.image.kind = .mmc5 then s.regs.mmc5.irqPending
      else if s.image.kind = .vrc6 ∨ s.image.kind = .vrc6a then s.regs.vrc6.irq.pending
      else if s.image.kind = .vrc7 then s.regs.vrc7.irq.pending
      else if s.image.kind = .fds then s.regs.fds.irqPending
      else false) }

/-- For every instruction of the active kind: an acknowledge write leaves the interrupt not pending,
and over every other one a pending interrupt stays pending. For every request that answers a
next state, decoded or not: a bus transaction that decodes to an acknowledge write, irq_clear,
reset, shutdown and construct leave none pending; over every other request (every other bus
transaction, scanline, irq_state, host_save, host_load) a pending interrupt stays pending.
irq_clear changes no other field: with the flag and the answer put back, the state is the one
before. That construct replaces a present cartridge is the model's choice, log entry 7.
(60_exceptions.md (Interrupt output), 40_facade.md (Control transactions; Host boundary: SRAM
persistence), 70_reset_and_hazards.md (Reset), 92_eei_decisions.md D13) -/
def Obligations.PendingIsClearedOnlyByAcknowledges : Prop :=
  (∀ (i : Instr) (s t : State), i.kind = s.image.kind → exec i s = .next t →
    (i.acknowledges = true → level t = false) ∧
    (i.acknowledges = false → level s = true → level t = true)) ∧
  (∀ (r : Request) (s t : State), handle r s = .next t →
    (r.endsPending s.image.kind = true → level t = false) ∧
    (r.endsPending s.image.kind = false → level s = true → level t = true)) ∧
  ∀ s : State, ∃ t, irqClear s = .next t ∧ level t = false ∧
    { t with regs := t.regs.setPending s.image.kind (level s), answer := s.answer } = s

/-- For every instruction of the active kind: a CPU transaction emits no trigger and the level does
not rise; a CHR transaction either emits none and keeps the level, or emits one with the
interrupt pending, on MMC3 only. For every request that answers a next state, decoded or not:
the same for CPU and CHR transactions; scanline either emits none and keeps the level, or emits
at least one with the interrupt pending, on MMC5, VRC6, VRC6A and VRC7 at most one and on FDS at
most one a tick, on no other kind any; reset, irq_state, irq_clear, host_save, host_load,
shutdown and construct emit none and the level does not rise. That construct is served on a
present cartridge is the model's choice, log entry 7. (60_exceptions.md (Interrupt output),
70_reset_and_hazards.md (Reset; Hazards), 40_facade.md (Control transactions; Host boundary:
SRAM persistence), 47_fds.md (IRQ timer), 92_eei_decisions.md D12, 92_eei_decisions.md D38) -/
def Obligations.InterruptsRiseOnlyInChrOrScanlineTransactions : Prop :=
  (∀ (i : Instr) (s t : State), i.kind = s.image.kind → exec i s = .next t →
    (i.isCpu = true → NoRise s t) ∧ (i.isCpu = false → RisesAtMost 1 [.mmc3] s t)) ∧
  ∀ (r : Request) (s t : State), handle r s = .next t →
    match r with
    | .bus (.cpuRead _) => NoRise s t
    | .bus (.cpuWrite _ _) => NoRise s t
    | .bus (.chrRead _) => RisesAtMost 1 [.mmc3] s t
    | .bus (.chrWrite _ _) => RisesAtMost 1 [.mmc3] s t
    | .scanline _ =>
      RisesAtMost (if s.image.kind = .fds then s.image.fdsTicks else 1)
        [.mmc5, .vrc6, .vrc6a, .vrc7, .fds] s t
    | .reset => NoRise s t
    | .irqState => NoRise s t
    | .irqClear => NoRise s t
    | .construct _ => NoRise s t
    | .hostSave _ => NoRise s t
    | .hostLoad _ => NoRise s t
    | .shutdown => NoRise s t

/-- For every instruction and state: if mirror_default is FOUR_SCREEN then mirror_mode is unchanged;
and on every cartridge only the AxROM bank, MMC1 serial, MMC3, MMC2 and MMC4 mirroring, MMC5
nametable, VRC6, VRC6a and VRC7 control and FDS control writes can change it. (10_state.md
(Cartridge image state), 92_eei_decisions.md D9) -/
def Obligations.FourScreenCartridgesKeepTheirMirroring : Prop :=
  ∀ (i : Instr) (s : State), ∃ t, exec i s = .next t ∧
    (s.image.mirrorDefault = .fourScreen → t.mirrorMode = s.mirrorMode) ∧
    (t.mirrorMode = s.mirrorMode ∨
      ∃ (a : Word) (v : Byte), i ∈ ([.axromBankWrite a v, .mmc1WriteControl a v,
        .mmc1WriteChr0 a v, .mmc1WriteChr1 a v, .mmc1WritePrg a v, .mmc3Mirroring a v,
        .mmc2Mirroring a v, .mmc4Mirroring a v, .mmc5NtMap a v, .vrc6Ctrl a v, .vrc6aCtrl a v,
        .vrc7Ctrl a v, .fdsControl a v] : List Instr))

/-- With a battery and a good write, save answers exactly the PRG_RAM_SIZE bytes of PRG-RAM in
offset order and clears sram_dirty, and loading those bytes into any cartridge with a battery
and the same size makes its PRG-RAM equal; without a battery both change nothing; a failed
write, a failed read and a wrong length answer Err(Io) and change nothing. (40_facade.md (Host
boundary: SRAM persistence), 92_eei_decisions.md D10, 92_eei_decisions.md D53) -/
def Obligations.SavedRamLoadsBackExactly : Prop :=
  (∀ s u : State, s.prgRam.wf → s.image.hasBattery = true → u.image.hasBattery = true →
    u.prgRam.size = s.prgRam.size →
    ∃ d, d.length = s.prgRam.size ∧ (∀ o < s.prgRam.size, d[o]? = some (s.prgRam.read o)) ∧
      hostSave true s = .next { s with sramDirty := false, answer := .ok (some d) } ∧
      hostLoad (some d) u =
        .next { u with prgRam := s.prgRam, sramDirty := false, answer := .ok none }) ∧
  (∀ (s : State) (ok : Bool) (d : Option (List Byte)), s.image.hasBattery = false →
    hostSave ok s = .next { s with answer := .ok none } ∧
    hostLoad d s = .next { s with answer := .ok none }) ∧
  ∀ (s : State) (d : List Byte), s.image.hasBattery = true →
    hostSave false s = .next { s with answer := .errIo } ∧
    hostLoad none s = .next { s with answer := .errIo } ∧
    (d.length ≠ s.prgRam.size → hostLoad (some d) s = .next { s with answer := .errIo })

/-- For every state that meets the invariant and whose step answers a next state, that state meets
it: memories canonical, PRG-ROM present, CHR-RAM and ExRAM of their sizes, FDS RAM at least
32768, kind the factory's choice, four-screen kept, tick rate at least 1, and every register
file but the active kind's at reset. The canonical form, the tick rate and the idle register
files are the model's own (log entries 9, 10, 14), and so are a construct request on a present
cartridge (log entry 7) and what a destroyed cartridge leaves (log entry 15). (10_state.md,
20_memory.md, 40_facade.md (Construction), 70_reset_and_hazards.md (Reset)) -/
def Obligations.StepKeepsTheInvariant : Prop :=
  ∀ s t : State, Inv s → step s = .next t → Inv t

/-- The state before any construction meets the invariant. The image values it holds are the model's
choice, log entry 4. (70_reset_and_hazards.md (Reset)) -/
def Obligations.ResetStateMeetsTheInvariant : Prop :=
  Inv State.reset
end

