-- ==== Sys2Proof/Laws/Memory.lean ====
section
/-!
SUPPORT. The laws of one memory: a read after a write, and every operation keeps the canonical
form.
-/

namespace Sys2Proof.Machine

theorem cellAt_cellErase (cells : List Host.Cell) (o p : Nat) :
    cellAt (cellErase cells o) p = if p = o then 0 else cellAt cells p := by
  induction cells with
  | nil => simp [cellErase, cellAt]
  | cons c rest ih =>
    obtain ⟨q, w⟩ := c
    unfold cellErase at ih ⊢
    by_cases hq : q = o
    · subst hq
      simp only [List.filter_cons, bne_self_eq_false, Bool.false_eq_true, if_false, ih, cellAt]
      split
      · rfl
      · rename_i h; rw [if_neg (fun e => h e.symm)]
    · simp only [List.filter_cons, bne_iff_ne, ne_eq, hq, not_false_eq_true, if_true, cellAt, ih]
      split
      · rename_i h; subst h; simp [hq]
      · rfl

theorem cellAt_cellInsert (cells : List Host.Cell) (o p : Nat) (v : Byte) :
    cellAt cells o = 0 → (∀ c ∈ cells, c.1 ≠ o) →
    cellAt (cellInsert cells o v) p = if p = o then v else cellAt cells p := by
  induction cells with
  | nil =>
    intro _ _
    simp only [cellInsert, cellAt]
    split
    · rename_i h; simp [h]
    · rename_i h; rw [if_neg (fun e => h e.symm)]
  | cons c rest ih =>
    obtain ⟨q, w⟩ := c
    intro h0 hne
    have hq : q ≠ o := hne (q, w) (by simp)
    have hrest : ∀ c ∈ rest, c.1 ≠ o := fun c hc => hne c (by simp [hc])
    have h0' : cellAt rest o = 0 := by simpa [cellAt, hq] using h0
    simp only [cellInsert]
    split
    · simp only [cellAt]
      by_cases hp : p = o
      · simp [hp]
      · rw [if_neg (fun e => hp e.symm), if_neg hp]
    · simp only [cellAt, ih h0' hrest]
      by_cases hp : q = p
      · subst hp; simp [hq]
      · simp [hp]

theorem cellErase_ne (cells : List Host.Cell) (o : Nat) : ∀ c ∈ cellErase cells o, c.1 ≠ o := by
  intro c hc
  simpa using (List.mem_filter.mp hc).2

/-- A read after a set: the byte set there, and no other byte moves. -/
theorem cellAt_cellSet (cells : List Host.Cell) (o p : Nat) (v : Byte) :
    cellAt (cellSet cells o v) p = if p = o then v else cellAt cells p := by
  unfold cellSet
  split
  · rename_i h; subst h; rw [cellAt_cellErase]
  · rw [cellAt_cellInsert _ _ _ _ (by simp [cellAt_cellErase]) (cellErase_ne cells o),
      cellAt_cellErase]
    split <;> rfl

@[simp] theorem Memory.size_write (m : Memory) (o : Nat) (v : Byte) :
    (m.write o v).size = m.size := by
  unfold Memory.write; split <;> rfl

/-- A read after a write inside the memory. -/
theorem Memory.read_write (m : Memory) (o p : Nat) (v : Byte) (h : o < m.size) :
    (m.write o v).read p = if p = o then v else m.read p := by
  simp only [Memory.read, Memory.write, if_pos h, cellAt_cellSet]

/-- A write never moves another byte, wherever it falls. -/
theorem Memory.read_write_other (m : Memory) {o p : Nat} (v : Byte) (h : p ≠ o) :
    (m.write o v).read p = m.read p := by
  by_cases ho : o < m.size
  · rw [Memory.read_write m o p v ho, if_neg h]
  · simp only [Memory.write, if_neg ho]

@[simp] theorem Memory.read_zeroed (n o : Nat) : (Memory.zeroed n).read o = 0 := rfl

@[simp] theorem Memory.size_zeroed (n : Nat) : (Memory.zeroed n).size = n := rfl

theorem Memory.wf_zeroed (n : Nat) : (Memory.zeroed n).wf := ⟨List.Pairwise.nil, by simp [Memory.zeroed]⟩

theorem mem_cellInsert {cells : List Host.Cell} {o : Nat} {v : Byte} {c : Host.Cell}
    (h : c ∈ cellInsert cells o v) : c = (o, v) ∨ c ∈ cells := by
  induction cells with
  | nil => exact .inl (by simpa [cellInsert] using h)
  | cons d rest ih =>
    obtain ⟨q, w⟩ := d
    simp only [cellInsert] at h
    split at h
    · simpa using h
    · rcases List.mem_cons.mp h with h | h
      · exact .inr (by simp [h])
      · rcases ih h with h | h
        · exact .inl h
        · exact .inr (by simp [h])

theorem cellInsert_sorted (cells : List Host.Cell) (o : Nat) (v : Byte)
    (hs : cells.Pairwise (fun c d => c.1 < d.1)) (hne : ∀ c ∈ cells, c.1 ≠ o) :
    (cellInsert cells o v).Pairwise (fun c d => c.1 < d.1) := by
  induction cells with
  | nil => simp [cellInsert]
  | cons d rest ih =>
    obtain ⟨q, w⟩ := d
    have hq : q ≠ o := hne (q, w) (by simp)
    rw [List.pairwise_cons] at hs
    simp only [cellInsert]
    split
    · rename_i hlt
      refine List.pairwise_cons.mpr ⟨fun c hc => ?_, List.pairwise_cons.mpr hs⟩
      rcases List.mem_cons.mp hc with h | h
      · subst h; exact hlt
      · exact Nat.lt_trans hlt (hs.1 c h)
    · rename_i hlt
      refine List.pairwise_cons.mpr ⟨fun c hc => ?_, ih hs.2 fun c hc => hne c (by simp [hc])⟩
      rcases mem_cellInsert hc with h | h
      · subst h; show q < o; omega
      · exact hs.1 c h

/-- Writing keeps the canonical form. -/
theorem Memory.wf_write (m : Memory) (o : Nat) (v : Byte) (h : m.wf) : (m.write o v).wf := by
  unfold Memory.write
  split
  · rename_i ho
    have he : (cellErase m.cells o).Pairwise (fun c d => c.1 < d.1) := h.1.filter _
    have hm : ∀ c ∈ cellErase m.cells o, c.1 < m.size ∧ c.2 ≠ 0 :=
      fun c hc => h.2 c (List.mem_filter.mp hc).1
    show (cellSet m.cells o v).Pairwise _ ∧ ∀ c ∈ cellSet m.cells o v, c.1 < m.size ∧ c.2 ≠ 0
    unfold cellSet
    split
    · exact ⟨he, hm⟩
    · rename_i hv
      refine ⟨cellInsert_sorted _ _ _ he (cellErase_ne m.cells o), fun c hc => ?_⟩
      rcases mem_cellInsert hc with h | h
      · subst h; exact ⟨ho, hv⟩
      · exact hm c h
  · exact h

theorem Memory.size_foldl_write (cells : List Host.Cell) (m : Memory) :
    (cells.foldl (fun m c => m.write c.1 c.2) m).size = m.size := by
  induction cells generalizing m with
  | nil => rfl
  | cons c rest ih => simp [ih]

theorem Memory.wf_foldl_write (cells : List Host.Cell) (m : Memory) (h : m.wf) :
    (cells.foldl (fun m c => m.write c.1 c.2) m).wf := by
  induction cells generalizing m with
  | nil => exact h
  | cons c rest ih => exact ih _ (m.wf_write c.1 c.2 h)

@[simp] theorem Memory.size_ofCells (n : Nat) (cells : List Host.Cell) :
    (Memory.ofCells n cells).size = n := Memory.size_foldl_write cells _

/-- An image is put into canonical form, whatever cells it comes from. -/
theorem Memory.wf_ofCells (n : Nat) (cells : List Host.Cell) : (Memory.ofCells n cells).wf :=
  Memory.wf_foldl_write cells _ (Memory.wf_zeroed n)

@[simp] theorem Memory.size_ofBytes (d : List Byte) : (Memory.ofBytes d).size = d.length := rfl

theorem mem_cellsOfBytes {o : Nat} {d : List Byte} {c : Host.Cell} (h : c ∈ cellsOfBytes o d) :
    o ≤ c.1 ∧ c.1 < o + d.length ∧ c.2 ≠ 0 := by
  induction d generalizing o with
  | nil => simp [cellsOfBytes] at h
  | cons v rest ih =>
    have step : c ∈ cellsOfBytes (o + 1) rest → o ≤ c.1 ∧ c.1 < o + (v :: rest).length ∧ c.2 ≠ 0 := by
      intro h
      obtain ⟨h1, h2, h3⟩ := ih h
      simp only [List.length_cons]
      exact ⟨by omega, by omega, h3⟩
    simp only [cellsOfBytes] at h
    split at h
    · exact step h
    · rename_i hv
      rcases List.mem_cons.mp h with h | h
      · subst h; exact ⟨Nat.le_refl o, by simp, hv⟩
      · exact step h

theorem cellsOfBytes_sorted (o : Nat) (d : List Byte) :
    (cellsOfBytes o d).Pairwise (fun c d => c.1 < d.1) := by
  induction d generalizing o with
  | nil => exact List.Pairwise.nil
  | cons v rest ih =>
    simp only [cellsOfBytes]
    split
    · exact ih (o + 1)
    · exact List.pairwise_cons.mpr ⟨fun c hc => (mem_cellsOfBytes hc).1, ih (o + 1)⟩

/-- A loaded memory is in canonical form. -/
theorem Memory.wf_ofBytes (d : List Byte) : (Memory.ofBytes d).wf :=
  ⟨cellsOfBytes_sorted 0 d, fun c hc => by
    obtain ⟨_, h2, h3⟩ := mem_cellsOfBytes hc
    exact ⟨by simpa using h2, h3⟩⟩

theorem cellAt_cellsOfBytes (o p : Nat) (d : List Byte) (h : o ≤ p) :
    cellAt (cellsOfBytes o d) p = (d[p - o]?).getD 0 := by
  induction d generalizing o with
  | nil => simp [cellsOfBytes, cellAt]
  | cons v rest ih =>
    by_cases hp : p = o
    · subst hp
      have hz : cellAt (cellsOfBytes (p + 1) rest) p = 0 := by
        have hn : ∀ c ∈ cellsOfBytes (p + 1) rest, c.1 ≠ p := fun c hc =>
          Nat.ne_of_gt (mem_cellsOfBytes hc).1
        generalize cellsOfBytes (p + 1) rest = l at hn
        induction l with
        | nil => rfl
        | cons c l ihl =>
          obtain ⟨q, w⟩ := c
          rw [cellAt, if_neg (hn (q, w) (by simp))]
          exact ihl fun c hc => hn c (by simp [hc])
      simp only [cellsOfBytes]
      split
      · rename_i hv; subst hv; simpa using hz
      · simp [cellAt]
    · have hlt : o + 1 ≤ p := by omega
      have hidx : p - o = (p - (o + 1)) + 1 := by omega
      simp only [cellsOfBytes]
      split
      · rw [ih (o + 1) hlt, hidx]; rfl
      · rw [cellAt, if_neg (fun e => hp e.symm), ih (o + 1) hlt, hidx]; rfl

/-- The byte a loaded memory holds at an offset. -/
theorem Memory.read_ofBytes (d : List Byte) (o : Nat) :
    (Memory.ofBytes d).read o = (d[o]?).getD 0 :=
  cellAt_cellsOfBytes 0 o d (Nat.zero_le o)

theorem Memory.length_bytes (m : Memory) : m.bytes.length = m.size := by simp [Memory.bytes]

theorem Memory.getElem?_bytes (m : Memory) (o : Nat) (h : o < m.size) :
    m.bytes[o]? = some (m.read o) := by
  simp [Memory.bytes, h]

theorem cellAt_above (l : List Host.Cell) (o : Nat) (h : ∀ c ∈ l, o < c.1) : cellAt l o = 0 := by
  induction l with
  | nil => rfl
  | cons c l ih =>
    obtain ⟨p, v⟩ := c
    rw [cellAt, if_neg (Nat.ne_of_gt (h (p, v) (by simp)))]
    exact ih fun c hc => h c (by simp [hc])

/-- Canonical cells are determined by what they hold. -/
theorem cells_eq_of_cellAt (l k : List Host.Cell)
    (hl : l.Pairwise (fun c d => c.1 < d.1)) (hk : k.Pairwise (fun c d => c.1 < d.1))
    (zl : ∀ c ∈ l, c.2 ≠ 0) (zk : ∀ c ∈ k, c.2 ≠ 0) (h : ∀ o, cellAt l o = cellAt k o) : l = k := by
  induction l generalizing k with
  | nil =>
    cases k with
    | nil => rfl
    | cons d k =>
      obtain ⟨q, w⟩ := d
      have hw : (0 : Byte) = w := by simpa [cellAt] using h q
      exact absurd hw.symm (zk (q, w) (by simp))
  | cons c l ih =>
    obtain ⟨p, v⟩ := c
    rw [List.pairwise_cons] at hl
    have hv : v ≠ 0 := zl (p, v) (by simp)
    cases k with
    | nil => exact absurd (by simpa [cellAt] using h p) hv
    | cons d k =>
      obtain ⟨q, w⟩ := d
      rw [List.pairwise_cons] at hk
      have hw : w ≠ 0 := zk (q, w) (by simp)
      have hpq : p = q := by
        rcases Nat.lt_trichotomy p q with e | e | e
        · have hz : cellAt ((q, w) :: k) p = 0 := cellAt_above _ _ fun c hc => by
            rcases List.mem_cons.mp hc with r | r
            · subst r; exact e
            · exact Nat.lt_trans e (hk.1 c r)
          exact absurd (by rw [← h p, cellAt, if_pos rfl] at hz; exact hz) hv
        · exact e
        · have hz : cellAt ((p, v) :: l) q = 0 := cellAt_above _ _ fun c hc => by
            rcases List.mem_cons.mp hc with r | r
            · subst r; exact e
            · exact Nat.lt_trans e (hl.1 c r)
          exact absurd (by rw [h q, cellAt, if_pos rfl] at hz; exact hz) hw
      subst hpq
      have hvw : v = w := by simpa [cellAt] using h p
      subst hvw
      rw [ih k hl.2 hk.2 (fun c hc => zl c (by simp [hc])) (fun c hc => zk c (by simp [hc]))]
      intro o
      by_cases ho : p = o
      · subst ho; rw [cellAt_above l p hl.1, cellAt_above k p hk.1]
      · simpa [cellAt, ho] using h o

/-- A canonical memory is determined by its size and its bytes. -/
theorem Memory.eq_of_read (m n : Memory) (hm : m.wf) (hn : n.wf) (hs : m.size = n.size)
    (h : ∀ o, m.read o = n.read o) : m = n := by
  obtain ⟨ms, mc⟩ := m
  obtain ⟨ns, nc⟩ := n
  have hc : mc = nc := cells_eq_of_cellAt mc nc hm.1 hn.1 (fun c hc => (hm.2 c hc).2)
    (fun c hc => (hn.2 c hc).2) h
  subst hc
  simp only at hs
  subst hs
  rfl

end Sys2Proof.Machine
end

