-- ==== Sys2Proof/Laws/State.lean ====
section
/-!
SUPPORT. One lemma per field per named update of State: what each operation leaves in each field.
-/

namespace Sys2Proof.Machine

/-! ### storePrgRam -/

@[simp] theorem storePrgRam_present (s : State) (o : Nat) (v : Byte) :
    (storePrgRam s o v).present = s.present := rfl
@[simp] theorem storePrgRam_image (s : State) (o : Nat) (v : Byte) :
    (storePrgRam s o v).image = s.image := rfl
@[simp] theorem storePrgRam_prgRam (s : State) (o : Nat) (v : Byte) :
    (storePrgRam s o v).prgRam = s.prgRam.write o v := rfl
@[simp] theorem storePrgRam_chrRam (s : State) (o : Nat) (v : Byte) :
    (storePrgRam s o v).chrRam = s.chrRam := rfl
@[simp] theorem storePrgRam_exram (s : State) (o : Nat) (v : Byte) :
    (storePrgRam s o v).exram = s.exram := rfl
@[simp] theorem storePrgRam_mirrorMode (s : State) (o : Nat) (v : Byte) :
    (storePrgRam s o v).mirrorMode = s.mirrorMode := rfl
@[simp] theorem storePrgRam_sramDirty (s : State) (o : Nat) (v : Byte) :
    (storePrgRam s o v).sramDirty = true := rfl
@[simp] theorem storePrgRam_regs (s : State) (o : Nat) (v : Byte) :
    (storePrgRam s o v).regs = s.regs := rfl
@[simp] theorem storePrgRam_requests (s : State) (o : Nat) (v : Byte) :
    (storePrgRam s o v).requests = s.requests := rfl
@[simp] theorem storePrgRam_answer (s : State) (o : Nat) (v : Byte) :
    (storePrgRam s o v).answer = s.answer := rfl
@[simp] theorem storePrgRam_triggers (s : State) (o : Nat) (v : Byte) :
    (storePrgRam s o v).triggers = s.triggers := rfl

/-! ### prgRamStore -/

@[simp] theorem prgRamStore_present (s : State) (b bs : Nat) (a : Word) (v : Byte) :
    (prgRamStore s b bs a v).present = s.present := by
  unfold prgRamStore; split <;> rfl
@[simp] theorem prgRamStore_image (s : State) (b bs : Nat) (a : Word) (v : Byte) :
    (prgRamStore s b bs a v).image = s.image := by
  unfold prgRamStore; split <;> rfl
@[simp] theorem prgRamStore_prgRam (s : State) (b bs : Nat) (a : Word) (v : Byte) :
    (prgRamStore s b bs a v).prgRam = if s.prgRam.size = 0 then s.prgRam
      else s.prgRam.write (bankOffset s.prgRam.size b bs a.toNat) v := by
  unfold prgRamStore; split <;> rfl
@[simp] theorem prgRamStore_chrRam (s : State) (b bs : Nat) (a : Word) (v : Byte) :
    (prgRamStore s b bs a v).chrRam = s.chrRam := by
  unfold prgRamStore; split <;> rfl
@[simp] theorem prgRamStore_exram (s : State) (b bs : Nat) (a : Word) (v : Byte) :
    (prgRamStore s b bs a v).exram = s.exram := by
  unfold prgRamStore; split <;> rfl
@[simp] theorem prgRamStore_mirrorMode (s : State) (b bs : Nat) (a : Word) (v : Byte) :
    (prgRamStore s b bs a v).mirrorMode = s.mirrorMode := by
  unfold prgRamStore; split <;> rfl
@[simp] theorem prgRamStore_sramDirty (s : State) (b bs : Nat) (a : Word) (v : Byte) :
    (prgRamStore s b bs a v).sramDirty = if s.prgRam.size = 0 then s.sramDirty else true := by
  unfold prgRamStore; split <;> rfl
@[simp] theorem prgRamStore_regs (s : State) (b bs : Nat) (a : Word) (v : Byte) :
    (prgRamStore s b bs a v).regs = s.regs := by
  unfold prgRamStore; split <;> rfl
@[simp] theorem prgRamStore_requests (s : State) (b bs : Nat) (a : Word) (v : Byte) :
    (prgRamStore s b bs a v).requests = s.requests := by
  unfold prgRamStore; split <;> rfl
@[simp] theorem prgRamStore_answer (s : State) (b bs : Nat) (a : Word) (v : Byte) :
    (prgRamStore s b bs a v).answer = s.answer := by
  unfold prgRamStore; split <;> rfl
@[simp] theorem prgRamStore_triggers (s : State) (b bs : Nat) (a : Word) (v : Byte) :
    (prgRamStore s b bs a v).triggers = s.triggers := by
  unfold prgRamStore; split <;> rfl

/-! ### chrStore -/

@[simp] theorem chrStore_present (s : State) (b bs : Nat) (a : ChrAddr) (v : Byte) :
    (chrStore s b bs a v).present = s.present := by
  unfold chrStore; split <;> rfl
@[simp] theorem chrStore_image (s : State) (b bs : Nat) (a : ChrAddr) (v : Byte) :
    (chrStore s b bs a v).image = s.image := by
  unfold chrStore; split <;> rfl
@[simp] theorem chrStore_prgRam (s : State) (b bs : Nat) (a : ChrAddr) (v : Byte) :
    (chrStore s b bs a v).prgRam = s.prgRam := by
  unfold chrStore; split <;> rfl
@[simp] theorem chrStore_chrRam (s : State) (b bs : Nat) (a : ChrAddr) (v : Byte) :
    (chrStore s b bs a v).chrRam = if s.chrRam.size = 0 then s.chrRam
      else s.chrRam.write (bankOffset s.chrRam.size b bs a.toNat) v := by
  unfold chrStore; split <;> rfl
@[simp] theorem chrStore_exram (s : State) (b bs : Nat) (a : ChrAddr) (v : Byte) :
    (chrStore s b bs a v).exram = s.exram := by
  unfold chrStore; split <;> rfl
@[simp] theorem chrStore_mirrorMode (s : State) (b bs : Nat) (a : ChrAddr) (v : Byte) :
    (chrStore s b bs a v).mirrorMode = s.mirrorMode := by
  unfold chrStore; split <;> rfl
@[simp] theorem chrStore_sramDirty (s : State) (b bs : Nat) (a : ChrAddr) (v : Byte) :
    (chrStore s b bs a v).sramDirty = s.sramDirty := by
  unfold chrStore; split <;> rfl
@[simp] theorem chrStore_regs (s : State) (b bs : Nat) (a : ChrAddr) (v : Byte) :
    (chrStore s b bs a v).regs = s.regs := by
  unfold chrStore; split <;> rfl
@[simp] theorem chrStore_requests (s : State) (b bs : Nat) (a : ChrAddr) (v : Byte) :
    (chrStore s b bs a v).requests = s.requests := by
  unfold chrStore; split <;> rfl
@[simp] theorem chrStore_answer (s : State) (b bs : Nat) (a : ChrAddr) (v : Byte) :
    (chrStore s b bs a v).answer = s.answer := by
  unfold chrStore; split <;> rfl
@[simp] theorem chrStore_triggers (s : State) (b bs : Nat) (a : ChrAddr) (v : Byte) :
    (chrStore s b bs a v).triggers = s.triggers := by
  unfold chrStore; split <;> rfl

/-! ### setMirror -/

@[simp] theorem setMirror_present (m : Mirror) (s : State) :
    (setMirror m s).present = s.present := by
  unfold setMirror; split <;> rfl
@[simp] theorem setMirror_image (m : Mirror) (s : State) :
    (setMirror m s).image = s.image := by
  unfold setMirror; split <;> rfl
@[simp] theorem setMirror_prgRam (m : Mirror) (s : State) :
    (setMirror m s).prgRam = s.prgRam := by
  unfold setMirror; split <;> rfl
@[simp] theorem setMirror_chrRam (m : Mirror) (s : State) :
    (setMirror m s).chrRam = s.chrRam := by
  unfold setMirror; split <;> rfl
@[simp] theorem setMirror_exram (m : Mirror) (s : State) :
    (setMirror m s).exram = s.exram := by
  unfold setMirror; split <;> rfl
@[simp] theorem setMirror_mirrorMode (m : Mirror) (s : State) :
    (setMirror m s).mirrorMode = if s.image.mirrorDefault = .fourScreen then s.mirrorMode else m := by
  unfold setMirror; split <;> rfl
@[simp] theorem setMirror_sramDirty (m : Mirror) (s : State) :
    (setMirror m s).sramDirty = s.sramDirty := by
  unfold setMirror; split <;> rfl
@[simp] theorem setMirror_regs (m : Mirror) (s : State) :
    (setMirror m s).regs = s.regs := by
  unfold setMirror; split <;> rfl
@[simp] theorem setMirror_requests (m : Mirror) (s : State) :
    (setMirror m s).requests = s.requests := by
  unfold setMirror; split <;> rfl
@[simp] theorem setMirror_answer (m : Mirror) (s : State) :
    (setMirror m s).answer = s.answer := by
  unfold setMirror; split <;> rfl
@[simp] theorem setMirror_triggers (m : Mirror) (s : State) :
    (setMirror m s).triggers = s.triggers := by
  unfold setMirror; split <;> rfl

/-! ### raiseIrq -/

@[simp] theorem raiseIrq_present (k : Kind) (s : State) :
    (raiseIrq k s).present = s.present := rfl
@[simp] theorem raiseIrq_image (k : Kind) (s : State) :
    (raiseIrq k s).image = s.image := rfl
@[simp] theorem raiseIrq_prgRam (k : Kind) (s : State) :
    (raiseIrq k s).prgRam = s.prgRam := rfl
@[simp] theorem raiseIrq_chrRam (k : Kind) (s : State) :
    (raiseIrq k s).chrRam = s.chrRam := rfl
@[simp] theorem raiseIrq_exram (k : Kind) (s : State) :
    (raiseIrq k s).exram = s.exram := rfl
@[simp] theorem raiseIrq_mirrorMode (k : Kind) (s : State) :
    (raiseIrq k s).mirrorMode = s.mirrorMode := rfl
@[simp] theorem raiseIrq_sramDirty (k : Kind) (s : State) :
    (raiseIrq k s).sramDirty = s.sramDirty := rfl
@[simp] theorem raiseIrq_regs (k : Kind) (s : State) :
    (raiseIrq k s).regs = s.regs.setPending k true := rfl
@[simp] theorem raiseIrq_requests (k : Kind) (s : State) :
    (raiseIrq k s).requests = s.requests := rfl
@[simp] theorem raiseIrq_answer (k : Kind) (s : State) :
    (raiseIrq k s).answer = s.answer := rfl
@[simp] theorem raiseIrq_triggers (k : Kind) (s : State) :
    (raiseIrq k s).triggers = s.triggers + 1 := rfl

/-! ### ackIrq -/

@[simp] theorem ackIrq_present (k : Kind) (s : State) :
    (ackIrq k s).present = s.present := rfl
@[simp] theorem ackIrq_image (k : Kind) (s : State) :
    (ackIrq k s).image = s.image := rfl
@[simp] theorem ackIrq_prgRam (k : Kind) (s : State) :
    (ackIrq k s).prgRam = s.prgRam := rfl
@[simp] theorem ackIrq_chrRam (k : Kind) (s : State) :
    (ackIrq k s).chrRam = s.chrRam := rfl
@[simp] theorem ackIrq_exram (k : Kind) (s : State) :
    (ackIrq k s).exram = s.exram := rfl
@[simp] theorem ackIrq_mirrorMode (k : Kind) (s : State) :
    (ackIrq k s).mirrorMode = s.mirrorMode := rfl
@[simp] theorem ackIrq_sramDirty (k : Kind) (s : State) :
    (ackIrq k s).sramDirty = s.sramDirty := rfl
@[simp] theorem ackIrq_regs (k : Kind) (s : State) :
    (ackIrq k s).regs = s.regs.setPending k false := rfl
@[simp] theorem ackIrq_requests (k : Kind) (s : State) :
    (ackIrq k s).requests = s.requests := rfl
@[simp] theorem ackIrq_answer (k : Kind) (s : State) :
    (ackIrq k s).answer = s.answer := rfl
@[simp] theorem ackIrq_triggers (k : Kind) (s : State) :
    (ackIrq k s).triggers = s.triggers := rfl

/-! ### clockIrq -/

@[simp] theorem clockIrq_present (s : State) :
    (clockIrq s).present = s.present := by
  unfold clockIrq; dsimp only; split <;> rfl
@[simp] theorem clockIrq_image (s : State) :
    (clockIrq s).image = s.image := by
  unfold clockIrq; dsimp only; split <;> rfl
@[simp] theorem clockIrq_prgRam (s : State) :
    (clockIrq s).prgRam = s.prgRam := by
  unfold clockIrq; dsimp only; split <;> rfl
@[simp] theorem clockIrq_chrRam (s : State) :
    (clockIrq s).chrRam = s.chrRam := by
  unfold clockIrq; dsimp only; split <;> rfl
@[simp] theorem clockIrq_exram (s : State) :
    (clockIrq s).exram = s.exram := by
  unfold clockIrq; dsimp only; split <;> rfl
@[simp] theorem clockIrq_mirrorMode (s : State) :
    (clockIrq s).mirrorMode = s.mirrorMode := by
  unfold clockIrq; dsimp only; split <;> rfl
@[simp] theorem clockIrq_sramDirty (s : State) :
    (clockIrq s).sramDirty = s.sramDirty := by
  unfold clockIrq; dsimp only; split <;> rfl
@[simp] theorem clockIrq_requests (s : State) :
    (clockIrq s).requests = s.requests := by
  unfold clockIrq; dsimp only; split <;> rfl
@[simp] theorem clockIrq_answer (s : State) :
    (clockIrq s).answer = s.answer := by
  unfold clockIrq; dsimp only; split <;> rfl

/-! ### edgeDetect -/

@[simp] theorem edgeDetect_present (a : ChrAddr) (s : State) :
    (edgeDetect a s).present = s.present := by
  unfold edgeDetect; dsimp only; split <;> simp
@[simp] theorem edgeDetect_image (a : ChrAddr) (s : State) :
    (edgeDetect a s).image = s.image := by
  unfold edgeDetect; dsimp only; split <;> simp
@[simp] theorem edgeDetect_prgRam (a : ChrAddr) (s : State) :
    (edgeDetect a s).prgRam = s.prgRam := by
  unfold edgeDetect; dsimp only; split <;> simp
@[simp] theorem edgeDetect_chrRam (a : ChrAddr) (s : State) :
    (edgeDetect a s).chrRam = s.chrRam := by
  unfold edgeDetect; dsimp only; split <;> simp
@[simp] theorem edgeDetect_exram (a : ChrAddr) (s : State) :
    (edgeDetect a s).exram = s.exram := by
  unfold edgeDetect; dsimp only; split <;> simp
@[simp] theorem edgeDetect_mirrorMode (a : ChrAddr) (s : State) :
    (edgeDetect a s).mirrorMode = s.mirrorMode := by
  unfold edgeDetect; dsimp only; split <;> simp
@[simp] theorem edgeDetect_sramDirty (a : ChrAddr) (s : State) :
    (edgeDetect a s).sramDirty = s.sramDirty := by
  unfold edgeDetect; dsimp only; split <;> simp
@[simp] theorem edgeDetect_requests (a : ChrAddr) (s : State) :
    (edgeDetect a s).requests = s.requests := by
  unfold edgeDetect; dsimp only; split <;> simp
@[simp] theorem edgeDetect_answer (a : ChrAddr) (s : State) :
    (edgeDetect a s).answer = s.answer := by
  unfold edgeDetect; dsimp only; split <;> simp

/-! ### mmc1Commit -/

@[simp] theorem mmc1Commit_present (t : BitVec 2) (v : BitVec 5) (s : State) :
    (mmc1Commit t v s).present = s.present := by
  unfold mmc1Commit; split_ifs <;> simp
@[simp] theorem mmc1Commit_image (t : BitVec 2) (v : BitVec 5) (s : State) :
    (mmc1Commit t v s).image = s.image := by
  unfold mmc1Commit; split_ifs <;> simp
@[simp] theorem mmc1Commit_prgRam (t : BitVec 2) (v : BitVec 5) (s : State) :
    (mmc1Commit t v s).prgRam = s.prgRam := by
  unfold mmc1Commit; split_ifs <;> simp
@[simp] theorem mmc1Commit_chrRam (t : BitVec 2) (v : BitVec 5) (s : State) :
    (mmc1Commit t v s).chrRam = s.chrRam := by
  unfold mmc1Commit; split_ifs <;> simp
@[simp] theorem mmc1Commit_exram (t : BitVec 2) (v : BitVec 5) (s : State) :
    (mmc1Commit t v s).exram = s.exram := by
  unfold mmc1Commit; split_ifs <;> simp
@[simp] theorem mmc1Commit_sramDirty (t : BitVec 2) (v : BitVec 5) (s : State) :
    (mmc1Commit t v s).sramDirty = s.sramDirty := by
  unfold mmc1Commit; split_ifs <;> simp
@[simp] theorem mmc1Commit_requests (t : BitVec 2) (v : BitVec 5) (s : State) :
    (mmc1Commit t v s).requests = s.requests := by
  unfold mmc1Commit; split_ifs <;> simp
@[simp] theorem mmc1Commit_answer (t : BitVec 2) (v : BitVec 5) (s : State) :
    (mmc1Commit t v s).answer = s.answer := by
  unfold mmc1Commit; split_ifs <;> simp
@[simp] theorem mmc1Commit_triggers (t : BitVec 2) (v : BitVec 5) (s : State) :
    (mmc1Commit t v s).triggers = s.triggers := by
  unfold mmc1Commit; split_ifs <;> simp

/-! ### mmc1Shift -/

@[simp] theorem mmc1Shift_present (a : Word) (v : Byte) (s : State) :
    (mmc1Shift a v s).present = s.present := by
  unfold mmc1Shift; dsimp only; split <;> simp
@[simp] theorem mmc1Shift_image (a : Word) (v : Byte) (s : State) :
    (mmc1Shift a v s).image = s.image := by
  unfold mmc1Shift; dsimp only; split <;> simp
@[simp] theorem mmc1Shift_prgRam (a : Word) (v : Byte) (s : State) :
    (mmc1Shift a v s).prgRam = s.prgRam := by
  unfold mmc1Shift; dsimp only; split <;> simp
@[simp] theorem mmc1Shift_chrRam (a : Word) (v : Byte) (s : State) :
    (mmc1Shift a v s).chrRam = s.chrRam := by
  unfold mmc1Shift; dsimp only; split <;> simp
@[simp] theorem mmc1Shift_exram (a : Word) (v : Byte) (s : State) :
    (mmc1Shift a v s).exram = s.exram := by
  unfold mmc1Shift; dsimp only; split <;> simp
@[simp] theorem mmc1Shift_sramDirty (a : Word) (v : Byte) (s : State) :
    (mmc1Shift a v s).sramDirty = s.sramDirty := by
  unfold mmc1Shift; dsimp only; split <;> simp
@[simp] theorem mmc1Shift_requests (a : Word) (v : Byte) (s : State) :
    (mmc1Shift a v s).requests = s.requests := by
  unfold mmc1Shift; dsimp only; split <;> simp
@[simp] theorem mmc1Shift_answer (a : Word) (v : Byte) (s : State) :
    (mmc1Shift a v s).answer = s.answer := by
  unfold mmc1Shift; dsimp only; split <;> simp
@[simp] theorem mmc1Shift_triggers (a : Word) (v : Byte) (s : State) :
    (mmc1Shift a v s).triggers = s.triggers := by
  unfold mmc1Shift; dsimp only; split <;> simp

/-! ### mmc5Scanline -/

@[simp] theorem mmc5Scanline_present (n : Word) (s : State) :
    (mmc5Scanline n s).present = s.present := by
  unfold mmc5Scanline; split <;> rfl
@[simp] theorem mmc5Scanline_image (n : Word) (s : State) :
    (mmc5Scanline n s).image = s.image := by
  unfold mmc5Scanline; split <;> rfl
@[simp] theorem mmc5Scanline_prgRam (n : Word) (s : State) :
    (mmc5Scanline n s).prgRam = s.prgRam := by
  unfold mmc5Scanline; split <;> rfl
@[simp] theorem mmc5Scanline_chrRam (n : Word) (s : State) :
    (mmc5Scanline n s).chrRam = s.chrRam := by
  unfold mmc5Scanline; split <;> rfl
@[simp] theorem mmc5Scanline_exram (n : Word) (s : State) :
    (mmc5Scanline n s).exram = s.exram := by
  unfold mmc5Scanline; split <;> rfl
@[simp] theorem mmc5Scanline_mirrorMode (n : Word) (s : State) :
    (mmc5Scanline n s).mirrorMode = s.mirrorMode := by
  unfold mmc5Scanline; split <;> rfl
@[simp] theorem mmc5Scanline_sramDirty (n : Word) (s : State) :
    (mmc5Scanline n s).sramDirty = s.sramDirty := by
  unfold mmc5Scanline; split <;> rfl
@[simp] theorem mmc5Scanline_requests (n : Word) (s : State) :
    (mmc5Scanline n s).requests = s.requests := by
  unfold mmc5Scanline; split <;> rfl
@[simp] theorem mmc5Scanline_answer (n : Word) (s : State) :
    (mmc5Scanline n s).answer = s.answer := by
  unfold mmc5Scanline; split <;> rfl

/-! ### vrc6Scanline -/

@[simp] theorem vrc6Scanline_present (k : Kind) (s : State) :
    (vrc6Scanline k s).present = s.present := by
  unfold vrc6Scanline; dsimp only; split <;> rfl
@[simp] theorem vrc6Scanline_image (k : Kind) (s : State) :
    (vrc6Scanline k s).image = s.image := by
  unfold vrc6Scanline; dsimp only; split <;> rfl
@[simp] theorem vrc6Scanline_prgRam (k : Kind) (s : State) :
    (vrc6Scanline k s).prgRam = s.prgRam := by
  unfold vrc6Scanline; dsimp only; split <;> rfl
@[simp] theorem vrc6Scanline_chrRam (k : Kind) (s : State) :
    (vrc6Scanline k s).chrRam = s.chrRam := by
  unfold vrc6Scanline; dsimp only; split <;> rfl
@[simp] theorem vrc6Scanline_exram (k : Kind) (s : State) :
    (vrc6Scanline k s).exram = s.exram := by
  unfold vrc6Scanline; dsimp only; split <;> rfl
@[simp] theorem vrc6Scanline_mirrorMode (k : Kind) (s : State) :
    (vrc6Scanline k s).mirrorMode = s.mirrorMode := by
  unfold vrc6Scanline; dsimp only; split <;> rfl
@[simp] theorem vrc6Scanline_sramDirty (k : Kind) (s : State) :
    (vrc6Scanline k s).sramDirty = s.sramDirty := by
  unfold vrc6Scanline; dsimp only; split <;> rfl
@[simp] theorem vrc6Scanline_requests (k : Kind) (s : State) :
    (vrc6Scanline k s).requests = s.requests := by
  unfold vrc6Scanline; dsimp only; split <;> rfl
@[simp] theorem vrc6Scanline_answer (k : Kind) (s : State) :
    (vrc6Scanline k s).answer = s.answer := by
  unfold vrc6Scanline; dsimp only; split <;> rfl

/-! ### vrc7Scanline -/

@[simp] theorem vrc7Scanline_present (s : State) :
    (vrc7Scanline s).present = s.present := by
  unfold vrc7Scanline; dsimp only; split <;> rfl
@[simp] theorem vrc7Scanline_image (s : State) :
    (vrc7Scanline s).image = s.image := by
  unfold vrc7Scanline; dsimp only; split <;> rfl
@[simp] theorem vrc7Scanline_prgRam (s : State) :
    (vrc7Scanline s).prgRam = s.prgRam := by
  unfold vrc7Scanline; dsimp only; split <;> rfl
@[simp] theorem vrc7Scanline_chrRam (s : State) :
    (vrc7Scanline s).chrRam = s.chrRam := by
  unfold vrc7Scanline; dsimp only; split <;> rfl
@[simp] theorem vrc7Scanline_exram (s : State) :
    (vrc7Scanline s).exram = s.exram := by
  unfold vrc7Scanline; dsimp only; split <;> rfl
@[simp] theorem vrc7Scanline_mirrorMode (s : State) :
    (vrc7Scanline s).mirrorMode = s.mirrorMode := by
  unfold vrc7Scanline; dsimp only; split <;> rfl
@[simp] theorem vrc7Scanline_sramDirty (s : State) :
    (vrc7Scanline s).sramDirty = s.sramDirty := by
  unfold vrc7Scanline; dsimp only; split <;> rfl
@[simp] theorem vrc7Scanline_requests (s : State) :
    (vrc7Scanline s).requests = s.requests := by
  unfold vrc7Scanline; dsimp only; split <;> rfl
@[simp] theorem vrc7Scanline_answer (s : State) :
    (vrc7Scanline s).answer = s.answer := by
  unfold vrc7Scanline; dsimp only; split <;> rfl

/-! ### fdsTick -/

@[simp] theorem fdsTick_present (s : State) :
    (fdsTick s).present = s.present := by
  unfold fdsTick; dsimp only; split_ifs <;> rfl
@[simp] theorem fdsTick_image (s : State) :
    (fdsTick s).image = s.image := by
  unfold fdsTick; dsimp only; split_ifs <;> rfl
@[simp] theorem fdsTick_prgRam (s : State) :
    (fdsTick s).prgRam = s.prgRam := by
  unfold fdsTick; dsimp only; split_ifs <;> rfl
@[simp] theorem fdsTick_chrRam (s : State) :
    (fdsTick s).chrRam = s.chrRam := by
  unfold fdsTick; dsimp only; split_ifs <;> rfl
@[simp] theorem fdsTick_exram (s : State) :
    (fdsTick s).exram = s.exram := by
  unfold fdsTick; dsimp only; split_ifs <;> rfl
@[simp] theorem fdsTick_mirrorMode (s : State) :
    (fdsTick s).mirrorMode = s.mirrorMode := by
  unfold fdsTick; dsimp only; split_ifs <;> rfl
@[simp] theorem fdsTick_sramDirty (s : State) :
    (fdsTick s).sramDirty = s.sramDirty := by
  unfold fdsTick; dsimp only; split_ifs <;> rfl
@[simp] theorem fdsTick_requests (s : State) :
    (fdsTick s).requests = s.requests := by
  unfold fdsTick; dsimp only; split_ifs <;> rfl
@[simp] theorem fdsTick_answer (s : State) :
    (fdsTick s).answer = s.answer := by
  unfold fdsTick; dsimp only; split_ifs <;> rfl

@[simp] theorem fdsTicks_present (n : Nat) (s : State) : (fdsTicks n s).present = s.present := by
  induction n generalizing s with
  | zero => rfl
  | succ n ih => simp [fdsTicks, ih]
@[simp] theorem fdsTicks_image (n : Nat) (s : State) : (fdsTicks n s).image = s.image := by
  induction n generalizing s with
  | zero => rfl
  | succ n ih => simp [fdsTicks, ih]
@[simp] theorem fdsTicks_prgRam (n : Nat) (s : State) : (fdsTicks n s).prgRam = s.prgRam := by
  induction n generalizing s with
  | zero => rfl
  | succ n ih => simp [fdsTicks, ih]
@[simp] theorem fdsTicks_chrRam (n : Nat) (s : State) : (fdsTicks n s).chrRam = s.chrRam := by
  induction n generalizing s with
  | zero => rfl
  | succ n ih => simp [fdsTicks, ih]
@[simp] theorem fdsTicks_exram (n : Nat) (s : State) : (fdsTicks n s).exram = s.exram := by
  induction n generalizing s with
  | zero => rfl
  | succ n ih => simp [fdsTicks, ih]
@[simp] theorem fdsTicks_mirrorMode (n : Nat) (s : State) : (fdsTicks n s).mirrorMode = s.mirrorMode := by
  induction n generalizing s with
  | zero => rfl
  | succ n ih => simp [fdsTicks, ih]
@[simp] theorem fdsTicks_sramDirty (n : Nat) (s : State) : (fdsTicks n s).sramDirty = s.sramDirty := by
  induction n generalizing s with
  | zero => rfl
  | succ n ih => simp [fdsTicks, ih]
@[simp] theorem fdsTicks_requests (n : Nat) (s : State) : (fdsTicks n s).requests = s.requests := by
  induction n generalizing s with
  | zero => rfl
  | succ n ih => simp [fdsTicks, ih]
@[simp] theorem fdsTicks_answer (n : Nat) (s : State) : (fdsTicks n s).answer = s.answer := by
  induction n generalizing s with
  | zero => rfl
  | succ n ih => simp [fdsTicks, ih]

/-! ### Register files under an interrupt flag -/

@[simp] theorem setPending_uxrom (k : Kind) (b : Bool) (r : RegFiles) :
    (r.setPending k b).uxrom = r.uxrom := by cases k <;> rfl
@[simp] theorem setPending_cnrom (k : Kind) (b : Bool) (r : RegFiles) :
    (r.setPending k b).cnrom = r.cnrom := by cases k <;> rfl
@[simp] theorem setPending_colorDreams (k : Kind) (b : Bool) (r : RegFiles) :
    (r.setPending k b).colorDreams = r.colorDreams := by cases k <;> rfl
@[simp] theorem setPending_axrom (k : Kind) (b : Bool) (r : RegFiles) :
    (r.setPending k b).axrom = r.axrom := by cases k <;> rfl
@[simp] theorem setPending_mmc1 (k : Kind) (b : Bool) (r : RegFiles) :
    (r.setPending k b).mmc1 = r.mmc1 := by cases k <;> rfl
@[simp] theorem setPending_mmc24 (k : Kind) (b : Bool) (r : RegFiles) :
    (r.setPending k b).mmc24 = r.mmc24 := by cases k <;> rfl

end Sys2Proof.Machine
end

