-- ==== Sys2Proof/Laws/Ops.lean ====
section
/-!
SUPPORT. What the shared operations can do, said once: the bank arithmetic stays inside its
buffer, a store into a memory, the mirroring lock, and the interrupt flag.
-/

namespace Sys2Proof.Machine

theorem reply_eq (v : Byte) (s : State) : reply v s = .next { s with answer := .byte v } := rfl

theorem done_eq (s : State) : done s = .next { s with answer := .nothing } := rfl

theorem nbanks_pos (size bs : Nat) : 0 < nbanks size bs := by unfold nbanks; omega

/-- Every resolved offset lies inside a buffer that is present (R211 to R213). -/
theorem bankOffset_lt (size b bs a : Nat) (h : size ≠ 0) : bankOffset size b bs a < size :=
  Nat.mod_lt _ (Nat.pos_of_ne_zero h)

/-- Banks counted from the end are bank numbers (R214). -/
theorem fromEnd_lt (size bs k : Nat) : fromEnd size bs k < nbanks size bs := by
  have hn := nbanks_pos size bs
  unfold fromEnd
  have h1 := Int.emod_lt_of_pos ((nbanks size bs : Int) - k) (by omega : (0 : Int) < nbanks size bs)
  have h2 := Int.emod_nonneg ((nbanks size bs : Int) - k) (by omega : (nbanks size bs : Int) ≠ 0)
  omega

/-- Where there are at least `k` banks, the bank `k` from the end is the count less `k`. -/
theorem fromEnd_eq (size bs k : Nat) (hk : 1 ≤ k) (h : k ≤ nbanks size bs) :
    fromEnd size bs k = nbanks size bs - k := by
  unfold fromEnd
  rw [Int.emod_eq_of_lt (by omega) (by omega)]
  omega

theorem regAt_regSet {w n : Nat} (v : Vector (BitVec w) n) (i j : Nat) (x : BitVec w) :
    regAt (regSet v i x) j = if i = j ∧ j < n then x else regAt v j := by
  unfold regAt regSet
  simp only [Vector.getElem?_setIfInBounds]
  split <;> rename_i h
  · subst h; split <;> simp_all
  · simp [h]

/-- A store through a PRG-RAM window, where PRG-RAM is present: one byte, and `sram_dirty`. -/
theorem prgRamStore_of_present (s : State) (b bs : Nat) (a : Word) (v : Byte) (h : s.prgRam.size ≠ 0) :
    prgRamStore s b bs a v = storePrgRam s (bankOffset s.prgRam.size b bs a.toNat) v := if_neg h

/-- A store through a PRG-RAM window, where PRG-RAM is absent: nothing. -/
theorem prgRamStore_of_absent (s : State) (b bs : Nat) (a : Word) (v : Byte) (h : s.prgRam.size = 0) :
    prgRamStore s b bs a v = s := if_pos h

/-- A CHR store, where CHR-RAM is absent: nothing. -/
theorem chrStore_of_absent (s : State) (b bs : Nat) (a : ChrAddr) (v : Byte) (h : s.chrRam.size = 0) :
    chrStore s b bs a v = s := if_pos h

/-- A write inside a memory stores exactly its byte. -/
theorem stored_write (m : Memory) (o : Nat) (v : Byte) (h : o < m.size) :
    Stored m (m.write o v) o v :=
  ⟨m.size_write o v, by rw [m.read_write o o v h, if_pos rfl],
    fun _ hp => m.read_write_other v hp⟩

/-- Everything a CHR store can do. -/
theorem chrStored_chrStore (s : State) (b bs : Nat) (a : ChrAddr) (v : Byte) :
    ChrStored s (chrStore s b bs a v) b bs a v := by
  unfold ChrStored chrStore
  split
  · rfl
  · exact ⟨_, rfl, stored_write _ _ _ (bankOffset_lt _ _ _ _ (by assumption))⟩

/-- Everything a PRG-RAM store can do. -/
theorem prgRamStored_prgRamStore (s : State) (b bs : Nat) (a : Word) (v : Byte) :
    PrgRamStored s (prgRamStore s b bs a v) b bs a v := by
  unfold PrgRamStored prgRamStore
  split
  · rfl
  · exact ⟨_, rfl, stored_write _ _ _ (bankOffset_lt _ _ _ _ (by assumption))⟩

/-- A register array write inside the array stores exactly its register. -/
theorem regStored_regSet {w n : Nat} (r : Vector (BitVec w) n) (i : Nat) (x : BitVec w) :
    RegStored r (regSet r i x) i x := by
  intro j h
  unfold regSet
  rw [Vector.getElem_setIfInBounds]
  by_cases e : i = j
  · rw [if_pos e, if_pos e.symm]
  · rw [if_neg e, if_neg (fun h => e h.symm)]

/-- A one-bit field is 1 exactly where its bit is set. -/
theorem extract_bit_one {w : Nat} (v : BitVec w) (i : Nat) :
    v.extractLsb i i = 1 ↔ v.getLsbD i = true := by
  rw [← BitVec.toNat_inj]
  simp only [BitVec.extractLsb, BitVec.extractLsb'_toNat, BitVec.getLsbD, Nat.testBit]
  simp [Nat.and_comm]

/-- A one-bit field is 0 exactly where its bit is clear. -/
theorem extract_bit_zero {w : Nat} (v : BitVec w) (i : Nat) :
    v.extractLsb i i = 0 ↔ v.getLsbD i = false := by
  rw [← BitVec.toNat_inj]
  simp only [BitVec.extractLsb, BitVec.extractLsb'_toNat, BitVec.getLsbD, Nat.testBit]
  simp [Nat.and_comm]

/-- `mirror_mode` after a mirroring write (R105). -/
theorem setMirror_eq (m : Mirror) (s : State) :
    setMirror m s = { s with mirrorMode := mirrored s m } := by
  unfold setMirror mirrored
  split <;> rfl

theorem setMirror_locked (m : Mirror) (s : State) (h : s.image.mirrorDefault = .fourScreen) :
    setMirror m s = s := if_pos h

theorem setMirror_free (m : Mirror) (s : State) (h : s.image.mirrorDefault ≠ .fourScreen) :
    setMirror m s = { s with mirrorMode := m } := if_neg h

/-- The kinds that have an IRQ unit (R1211). -/
def hasIrq : Kind → Bool
  | .mmc3 | .mmc5 | .vrc6 | .vrc6a | .vrc7 | .fds => true
  | .nrom | .uxrom | .camerica | .cnrom | .colorDreams | .axrom | .mmc1 | .mmc2 | .mmc4 => false

/-- The flag of a kind after it is set or cleared; the kinds without an IRQ unit answer false. -/
theorem pending_setPending (k : Kind) (b : Bool) (r : RegFiles) :
    (r.setPending k b).pending k = (hasIrq k && b) := by
  cases k <;> simp [RegFiles.setPending, RegFiles.pending, hasIrq]

/-- A failed construction answers the failure and leaves no cartridge. -/
theorem constructFailed_eq (why : ConstructFailure) (s : State) :
    constructFailed why s = .next { unloaded s with answer := .failed why } := rfl

/-- Everything construction can do (R403, R1201). -/
theorem construct_cases (m : Metadata) (s : State) :
    (m.prgRom.size = 0 ∧ construct m s = constructFailed .invalidImage s) ∨
    (m.prgRom.size ≠ 0 ∧ factory m.mapperNumber = none ∧
      construct m s = constructFailed .unsupported s) ∨
    (∃ k, m.prgRom.size ≠ 0 ∧ factory m.mapperNumber = some k ∧ mustAllocate k m = true ∧
      m.allocOk = false ∧ construct m s = constructFailed .allocFailure s) ∨
    (∃ k, m.prgRom.size ≠ 0 ∧ factory m.mapperNumber = some k ∧
      ¬(mustAllocate k m = true ∧ m.allocOk = false) ∧
      construct m s = .next (newCartridge k m s)) := by
  unfold construct
  by_cases h0 : m.prgRom.size = 0
  · exact .inl ⟨h0, if_pos h0⟩
  · rw [if_neg h0]
    cases hf : factory m.mapperNumber with
    | none => exact .inr (.inl ⟨h0, rfl, rfl⟩)
    | some k =>
      by_cases ha : mustAllocate k m = true ∧ m.allocOk = false
      · exact .inr (.inr (.inl ⟨k, h0, rfl, ha.1, ha.2, if_pos ha⟩))
      · exact .inr (.inr (.inr ⟨k, h0, rfl, ha, if_neg ha⟩))

/-- Everything one FDS tick can do (R1130). -/
theorem fdsTick_cases (s : State) :
    (¬(s.regs.fds.timerCtrl.extractLsb 1 1 = 1 ∧ s.regs.fds.masterIo.extractLsb 0 0 = 1) ∧
      fdsTick s = s) ∨
    (s.regs.fds.timerCounter ≠ 0 ∧
      fdsTick s = { s with regs.fds.timerCounter := s.regs.fds.timerCounter - 1 }) ∨
    (s.regs.fds.timerCounter = 0 ∧ s.regs.fds.timerCtrl.extractLsb 0 0 = 1 ∧
      fdsTick s =
        { raiseIrq .fds s with
          regs := { (raiseIrq .fds s).regs with
            fds := { (raiseIrq .fds s).regs.fds with timerCounter := s.regs.fds.timerReload } } }) ∨
    (s.regs.fds.timerCounter = 0 ∧ s.regs.fds.timerCtrl.extractLsb 0 0 ≠ 1 ∧
      fdsTick s =
        { raiseIrq .fds s with
          regs := { (raiseIrq .fds s).regs with
            fds := { (raiseIrq .fds s).regs.fds with
              timerCtrl := s.regs.fds.timerCtrl &&& 0b01 } } }) := by
  unfold fdsTick
  dsimp only
  split
  · split
    · rename_i h0
      split
      · rename_i h1; exact .inr (.inr (.inl ⟨h0, h1, rfl⟩))
      · rename_i h1; exact .inr (.inr (.inr ⟨h0, h1, rfl⟩))
    · rename_i h0; exact .inr (.inl ⟨h0, rfl⟩)
  · rename_i h; exact .inl ⟨h, rfl⟩

/-- A clock of the MMC3 counter: the new count, no reload pending, and the interrupt raised exactly
where the count is 0 and the IRQ enabled (R721). -/
theorem clockIrq_cases (s : State) :
    let t : State := { s with regs.mmc3.irqCounter := mmc3NextCounter s.regs.mmc3
                              regs.mmc3.irqReload := false }
    (mmc3NextCounter s.regs.mmc3 = 0 ∧ s.regs.mmc3.irqEnable = true ∧
      clockIrq s = raiseIrq .mmc3 t) ∨
    (¬(mmc3NextCounter s.regs.mmc3 = 0 ∧ s.regs.mmc3.irqEnable = true) ∧ clockIrq s = t) := by
  unfold clockIrq
  dsimp only
  split
  · rename_i h; exact .inl ⟨h.1, h.2, rfl⟩
  · rename_i h; exact .inr ⟨h, rfl⟩

/-- Everything a request can do when no cartridge exists. -/
theorem handle_absent (r : Request) (s : State) (h : s.present = false) :
    (∃ m, r = .construct m ∧ handle r s = construct m s) ∨
    ((∀ m, r ≠ .construct m) ∧ handle r s = .fault .noCartridge) := by
  cases r <;> simp [handle, h]

/-- With a cartridge, every request is served. -/
theorem handle_present (r : Request) (s : State) (h : s.present = true) :
    handle r s = serve r s := by
  cases r <;> simp [handle, serve, h]

/-- A reset leaves the kind's interrupt flag clear (R1300, R1212). -/
theorem pending_resetKind (k : Kind) (r : RegFiles) : (r.resetKind k).pending k = false := by
  cases k <;> rfl

/-- No register file holds a pending interrupt at reset, whatever the kind (R1300). -/
theorem pending_reset (k : Kind) : RegFiles.reset.pending k = false := by cases k <;> rfl

/-- A transaction no row decodes answers 0 or nothing and changes nothing else (R222, R405). -/
theorem unmapped_cases (b : Bus) (s : State) :
    unmapped b s = .next { s with answer := .byte 0 } ∨
    unmapped b s = .next { s with answer := .nothing } := by
  cases b <;> simp [unmapped, reply, done]

/-- Any number of FDS ticks keeps the image and emits at most one event a tick; none leaves the flag
as it was, any leaves it set (R1130, R1131). -/
theorem fdsTicks_rises (n : Nat) (s : State) :
    (fdsTicks n s).image = s.image ∧ s.triggers ≤ (fdsTicks n s).triggers ∧
    (fdsTicks n s).triggers ≤ s.triggers + n ∧
    (fdsTicks n s).regs.fds.irqPending =
      (s.regs.fds.irqPending || decide (s.triggers < (fdsTicks n s).triggers)) := by
  induction n generalizing s with
  | zero => simp [fdsTicks]
  | succ n ih =>
    have h := ih (fdsTick s)
    have one : (fdsTick s).image = s.image ∧
        ((fdsTick s).triggers = s.triggers ∧
          (fdsTick s).regs.fds.irqPending = s.regs.fds.irqPending ∨
        (fdsTick s).triggers = s.triggers + 1 ∧ (fdsTick s).regs.fds.irqPending = true) := by
      rcases fdsTick_cases s with ⟨_, e⟩ | ⟨_, e⟩ | ⟨_, _, e⟩ | ⟨_, _, e⟩ <;>
        simp [e, raiseIrq, RegFiles.setPending]
    obtain ⟨hi, hk⟩ := one
    obtain ⟨a, b, c, d⟩ := h
    refine ⟨by rw [fdsTicks, a, hi], ?_, ?_, ?_⟩
    · rw [fdsTicks]; rcases hk with ⟨e, _⟩ | ⟨e, _⟩ <;> omega
    · rw [fdsTicks]; rcases hk with ⟨e, _⟩ | ⟨e, _⟩ <;> omega
    · rw [fdsTicks, d]
      rcases hk with ⟨e, p⟩ | ⟨e, p⟩
      · rw [e, p]
      · have : s.triggers < (fdsTicks n (fdsTick s)).triggers := by omega
        simp [p, this]

end Sys2Proof.Machine
end

