-- ==== Sys2Proof/Laws/PerInstr.lean ====
section
/-!
SUPPORT. One lemma per instruction: an instruction whose operands fit its pattern is built by a row
that the decoder's list of its kind and format holds (30_encoding.md R301). With the rows' mutual
exclusion this is what a round trip of decode and encode goes through.
-/

namespace Sys2Proof.Laws

theorem read_row {mask want a : Word} {build : Word → Instr} (h : fitsAddr mask want a = true) :
    (readRow mask want build).accepts a 0 = true := by
  simpa [Row.accepts, readRow, fitsAddr] using h

theorem write_row {mask want a : Word} {v : Byte} {build : Word → Byte → Instr}
    (h : fitsAddr mask want a = true) : (writeRow mask want build).accepts a v = true := by
  simpa [Row.accepts, writeRow, fitsAddr] using h

theorem serial_row {mask want a : Word} {dmask dwant v : Byte} {build : Word → Byte → Instr}
    (h : (fitsAddr mask want a && fitsValue dmask dwant v) = true) :
    (serialRow mask want dmask dwant build).accepts a v = true := by
  simpa [Row.accepts, serialRow, fitsAddr, fitsValue] using h

/-- A PPU address put on the 16-bit bus comes back whole. -/
theorem chr_addr (a : ChrAddr) : (a.setWidth 16).setWidth 13 = a := by simp

/-- The instruction, if its operands fit its pattern, is built by a row of its kind and format. -/
def RowListed.Statement (i : Instr) : Prop :=
  i.wellFormed = true →
    match i.bus with
    | .cpuRead a => ∃ r ∈ cpuReadRows i.kind, r.accepts a 0 = true ∧ r.build a 0 = i
    | .cpuWrite a v => ∃ r ∈ cpuWriteRows i.kind, r.accepts a v = true ∧ r.build a v = i
    | .chrRead a => chrReadInstr i.kind (a.setWidth 13) = i
    | .chrWrite a v => chrWriteInstr i.kind (a.setWidth 13) v = i

theorem RowListed.nromPrgRead (a : Word) : RowListed.Statement (.nromPrgRead a) := fun h =>
  (⟨_, .head _, read_row h, rfl⟩ :
    ∃ r ∈ cpuReadRows .nrom, r.accepts a 0 = true ∧ r.build a 0 = Instr.nromPrgRead a)

theorem RowListed.nromPrgWrite (a : Word) (v : Byte) : RowListed.Statement (.nromPrgWrite a v) := fun h =>
  (⟨_, .head _, write_row h, rfl⟩ :
    ∃ r ∈ cpuWriteRows .nrom, r.accepts a v = true ∧ r.build a v = Instr.nromPrgWrite a v)

theorem RowListed.nromPrgramRead (a : Word) : RowListed.Statement (.nromPrgramRead a) := fun h =>
  (⟨_, .tail _ (.head _), read_row h, rfl⟩ :
    ∃ r ∈ cpuReadRows .nrom, r.accepts a 0 = true ∧ r.build a 0 = Instr.nromPrgramRead a)

theorem RowListed.nromPrgramWrite (a : Word) (v : Byte) : RowListed.Statement (.nromPrgramWrite a v) := fun h =>
  (⟨_, .tail _ (.head _), write_row h, rfl⟩ :
    ∃ r ∈ cpuWriteRows .nrom, r.accepts a v = true ∧ r.build a v = Instr.nromPrgramWrite a v)

theorem RowListed.nromChrRead (a : ChrAddr) : RowListed.Statement (.nromChrRead a) :=
  fun _ => congrArg (Instr.nromChrRead ·) (chr_addr a)

theorem RowListed.nromChrWrite (a : ChrAddr) (v : Byte) : RowListed.Statement (.nromChrWrite a v) :=
  fun _ => congrArg (Instr.nromChrWrite · v) (chr_addr a)

theorem RowListed.uxromBankWrite (a : Word) (v : Byte) : RowListed.Statement (.uxromBankWrite a v) := fun h =>
  (⟨_, .head _, write_row h, rfl⟩ :
    ∃ r ∈ cpuWriteRows .uxrom, r.accepts a v = true ∧ r.build a v = Instr.uxromBankWrite a v)

theorem RowListed.uxromPrgReadLow (a : Word) : RowListed.Statement (.uxromPrgReadLow a) := fun h =>
  (⟨_, .head _, read_row h, rfl⟩ :
    ∃ r ∈ cpuReadRows .uxrom, r.accepts a 0 = true ∧ r.build a 0 = Instr.uxromPrgReadLow a)

theorem RowListed.uxromPrgReadHigh (a : Word) : RowListed.Statement (.uxromPrgReadHigh a) := fun h =>
  (⟨_, .tail _ (.head _), read_row h, rfl⟩ :
    ∃ r ∈ cpuReadRows .uxrom, r.accepts a 0 = true ∧ r.build a 0 = Instr.uxromPrgReadHigh a)

theorem RowListed.uxromPrgramRead (a : Word) : RowListed.Statement (.uxromPrgramRead a) := fun h =>
  (⟨_, .tail _ (.tail _ (.head _)), read_row h, rfl⟩ :
    ∃ r ∈ cpuReadRows .uxrom, r.accepts a 0 = true ∧ r.build a 0 = Instr.uxromPrgramRead a)

theorem RowListed.uxromPrgramWrite (a : Word) (v : Byte) : RowListed.Statement (.uxromPrgramWrite a v) := fun h =>
  (⟨_, .tail _ (.head _), write_row h, rfl⟩ :
    ∃ r ∈ cpuWriteRows .uxrom, r.accepts a v = true ∧ r.build a v = Instr.uxromPrgramWrite a v)

theorem RowListed.uxromChrRead (a : ChrAddr) : RowListed.Statement (.uxromChrRead a) :=
  fun _ => congrArg (Instr.uxromChrRead ·) (chr_addr a)

theorem RowListed.uxromChrWrite (a : ChrAddr) (v : Byte) : RowListed.Statement (.uxromChrWrite a v) :=
  fun _ => congrArg (Instr.uxromChrWrite · v) (chr_addr a)

theorem RowListed.camericaBankWrite (a : Word) (v : Byte) : RowListed.Statement (.camericaBankWrite a v) := fun h =>
  (⟨_, .head _, write_row h, rfl⟩ :
    ∃ r ∈ cpuWriteRows .camerica, r.accepts a v = true ∧ r.build a v = Instr.camericaBankWrite a v)

theorem RowListed.camericaPrgReadLow (a : Word) : RowListed.Statement (.camericaPrgReadLow a) := fun h =>
  (⟨_, .head _, read_row h, rfl⟩ :
    ∃ r ∈ cpuReadRows .camerica, r.accepts a 0 = true ∧ r.build a 0 = Instr.camericaPrgReadLow a)

theorem RowListed.camericaPrgReadHigh (a : Word) : RowListed.Statement (.camericaPrgReadHigh a) := fun h =>
  (⟨_, .tail _ (.head _), read_row h, rfl⟩ :
    ∃ r ∈ cpuReadRows .camerica, r.accepts a 0 = true ∧ r.build a 0 = Instr.camericaPrgReadHigh a)

theorem RowListed.camericaPrgramRead (a : Word) : RowListed.Statement (.camericaPrgramRead a) := fun h =>
  (⟨_, .tail _ (.tail _ (.head _)), read_row h, rfl⟩ :
    ∃ r ∈ cpuReadRows .camerica, r.accepts a 0 = true ∧ r.build a 0 = Instr.camericaPrgramRead a)

theorem RowListed.camericaPrgramWrite (a : Word) (v : Byte) : RowListed.Statement (.camericaPrgramWrite a v) := fun h =>
  (⟨_, .tail _ (.head _), write_row h, rfl⟩ :
    ∃ r ∈ cpuWriteRows .camerica, r.accepts a v = true ∧ r.build a v = Instr.camericaPrgramWrite a v)

theorem RowListed.camericaChrRead (a : ChrAddr) : RowListed.Statement (.camericaChrRead a) :=
  fun _ => congrArg (Instr.camericaChrRead ·) (chr_addr a)

theorem RowListed.camericaChrWrite (a : ChrAddr) (v : Byte) : RowListed.Statement (.camericaChrWrite a v) :=
  fun _ => congrArg (Instr.camericaChrWrite · v) (chr_addr a)

theorem RowListed.cnromChrBankWrite (a : Word) (v : Byte) : RowListed.Statement (.cnromChrBankWrite a v) := fun h =>
  (⟨_, .head _, write_row h, rfl⟩ :
    ∃ r ∈ cpuWriteRows .cnrom, r.accepts a v = true ∧ r.build a v = Instr.cnromChrBankWrite a v)

theorem RowListed.cnromPrgRead (a : Word) : RowListed.Statement (.cnromPrgRead a) := fun h =>
  (⟨_, .head _, read_row h, rfl⟩ :
    ∃ r ∈ cpuReadRows .cnrom, r.accepts a 0 = true ∧ r.build a 0 = Instr.cnromPrgRead a)

theorem RowListed.cnromChrRead (a : ChrAddr) : RowListed.Statement (.cnromChrRead a) :=
  fun _ => congrArg (Instr.cnromChrRead ·) (chr_addr a)

theorem RowListed.cnromChrWrite (a : ChrAddr) (v : Byte) : RowListed.Statement (.cnromChrWrite a v) :=
  fun _ => congrArg (Instr.cnromChrWrite · v) (chr_addr a)

theorem RowListed.cnromPrgramRead (a : Word) : RowListed.Statement (.cnromPrgramRead a) := fun h =>
  (⟨_, .tail _ (.head _), read_row h, rfl⟩ :
    ∃ r ∈ cpuReadRows .cnrom, r.accepts a 0 = true ∧ r.build a 0 = Instr.cnromPrgramRead a)

theorem RowListed.cnromPrgramWrite (a : Word) (v : Byte) : RowListed.Statement (.cnromPrgramWrite a v) := fun h =>
  (⟨_, .tail _ (.head _), write_row h, rfl⟩ :
    ∃ r ∈ cpuWriteRows .cnrom, r.accepts a v = true ∧ r.build a v = Instr.cnromPrgramWrite a v)

theorem RowListed.colorDreamsBankWrite (a : Word) (v : Byte) : RowListed.Statement (.colorDreamsBankWrite a v) := fun h =>
  (⟨_, .head _, write_row h, rfl⟩ :
    ∃ r ∈ cpuWriteRows .colorDreams, r.accepts a v = true ∧ r.build a v = Instr.colorDreamsBankWrite a v)

theorem RowListed.colorDreamsPrgRead (a : Word) : RowListed.Statement (.colorDreamsPrgRead a) := fun h =>
  (⟨_, .head _, read_row h, rfl⟩ :
    ∃ r ∈ cpuReadRows .colorDreams, r.accepts a 0 = true ∧ r.build a 0 = Instr.colorDreamsPrgRead a)

theorem RowListed.colorDreamsChrRead (a : ChrAddr) : RowListed.Statement (.colorDreamsChrRead a) :=
  fun _ => congrArg (Instr.colorDreamsChrRead ·) (chr_addr a)

theorem RowListed.colorDreamsChrWrite (a : ChrAddr) (v : Byte) : RowListed.Statement (.colorDreamsChrWrite a v) :=
  fun _ => congrArg (Instr.colorDreamsChrWrite · v) (chr_addr a)

theorem RowListed.colorDreamsPrgramRead (a : Word) : RowListed.Statement (.colorDreamsPrgramRead a) := fun h =>
  (⟨_, .tail _ (.head _), read_row h, rfl⟩ :
    ∃ r ∈ cpuReadRows .colorDreams, r.accepts a 0 = true ∧ r.build a 0 = Instr.colorDreamsPrgramRead a)

theorem RowListed.colorDreamsPrgramWrite (a : Word) (v : Byte) : RowListed.Statement (.colorDreamsPrgramWrite a v) := fun h =>
  (⟨_, .tail _ (.head _), write_row h, rfl⟩ :
    ∃ r ∈ cpuWriteRows .colorDreams, r.accepts a v = true ∧ r.build a v = Instr.colorDreamsPrgramWrite a v)

theorem RowListed.axromBankWrite (a : Word) (v : Byte) : RowListed.Statement (.axromBankWrite a v) := fun h =>
  (⟨_, .head _, write_row h, rfl⟩ :
    ∃ r ∈ cpuWriteRows .axrom, r.accepts a v = true ∧ r.build a v = Instr.axromBankWrite a v)

theorem RowListed.axromPrgRead (a : Word) : RowListed.Statement (.axromPrgRead a) := fun h =>
  (⟨_, .head _, read_row h, rfl⟩ :
    ∃ r ∈ cpuReadRows .axrom, r.accepts a 0 = true ∧ r.build a 0 = Instr.axromPrgRead a)

theorem RowListed.axromPrgramRead (a : Word) : RowListed.Statement (.axromPrgramRead a) := fun h =>
  (⟨_, .tail _ (.head _), read_row h, rfl⟩ :
    ∃ r ∈ cpuReadRows .axrom, r.accepts a 0 = true ∧ r.build a 0 = Instr.axromPrgramRead a)

theorem RowListed.axromPrgramWrite (a : Word) (v : Byte) : RowListed.Statement (.axromPrgramWrite a v) := fun h =>
  (⟨_, .tail _ (.head _), write_row h, rfl⟩ :
    ∃ r ∈ cpuWriteRows .axrom, r.accepts a v = true ∧ r.build a v = Instr.axromPrgramWrite a v)

theorem RowListed.axromChrRead (a : ChrAddr) : RowListed.Statement (.axromChrRead a) :=
  fun _ => congrArg (Instr.axromChrRead ·) (chr_addr a)

theorem RowListed.axromChrWrite (a : ChrAddr) (v : Byte) : RowListed.Statement (.axromChrWrite a v) :=
  fun _ => congrArg (Instr.axromChrWrite · v) (chr_addr a)

theorem RowListed.mmc1ResetWrite (a : Word) (v : Byte) : RowListed.Statement (.mmc1ResetWrite a v) := fun h =>
  (⟨_, .head _, serial_row h, rfl⟩ :
    ∃ r ∈ cpuWriteRows .mmc1, r.accepts a v = true ∧ r.build a v = Instr.mmc1ResetWrite a v)

theorem RowListed.mmc1WriteControl (a : Word) (v : Byte) : RowListed.Statement (.mmc1WriteControl a v) := fun h =>
  (⟨_, .tail _ (.head _), serial_row h, rfl⟩ :
    ∃ r ∈ cpuWriteRows .mmc1, r.accepts a v = true ∧ r.build a v = Instr.mmc1WriteControl a v)

theorem RowListed.mmc1WriteChr0 (a : Word) (v : Byte) : RowListed.Statement (.mmc1WriteChr0 a v) := fun h =>
  (⟨_, .tail _ (.tail _ (.head _)), serial_row h, rfl⟩ :
    ∃ r ∈ cpuWriteRows .mmc1, r.accepts a v = true ∧ r.build a v = Instr.mmc1WriteChr0 a v)

theorem RowListed.mmc1WriteChr1 (a : Word) (v : Byte) : RowListed.Statement (.mmc1WriteChr1 a v) := fun h =>
  (⟨_, .tail _ (.tail _ (.tail _ (.head _))), serial_row h, rfl⟩ :
    ∃ r ∈ cpuWriteRows .mmc1, r.accepts a v = true ∧ r.build a v = Instr.mmc1WriteChr1 a v)

theorem RowListed.mmc1WritePrg (a : Word) (v : Byte) : RowListed.Statement (.mmc1WritePrg a v) := fun h =>
  (⟨_, .tail _ (.tail _ (.tail _ (.tail _ (.head _)))), serial_row h, rfl⟩ :
    ∃ r ∈ cpuWriteRows .mmc1, r.accepts a v = true ∧ r.build a v = Instr.mmc1WritePrg a v)

theorem RowListed.mmc1PrgReadLow (a : Word) : RowListed.Statement (.mmc1PrgReadLow a) := fun h =>
  (⟨_, .head _, read_row h, rfl⟩ :
    ∃ r ∈ cpuReadRows .mmc1, r.accepts a 0 = true ∧ r.build a 0 = Instr.mmc1PrgReadLow a)

theorem RowListed.mmc1PrgReadHigh (a : Word) : RowListed.Statement (.mmc1PrgReadHigh a) := fun h =>
  (⟨_, .tail _ (.head _), read_row h, rfl⟩ :
    ∃ r ∈ cpuReadRows .mmc1, r.accepts a 0 = true ∧ r.build a 0 = Instr.mmc1PrgReadHigh a)

theorem RowListed.mmc1ChrRead (a : ChrAddr) : RowListed.Statement (.mmc1ChrRead a) :=
  fun _ => congrArg (Instr.mmc1ChrRead ·) (chr_addr a)

theorem RowListed.mmc1ChrWrite (a : ChrAddr) (v : Byte) : RowListed.Statement (.mmc1ChrWrite a v) :=
  fun _ => congrArg (Instr.mmc1ChrWrite · v) (chr_addr a)

theorem RowListed.mmc1PrgramRead (a : Word) : RowListed.Statement (.mmc1PrgramRead a) := fun h =>
  (⟨_, .tail _ (.tail _ (.head _)), read_row h, rfl⟩ :
    ∃ r ∈ cpuReadRows .mmc1, r.accepts a 0 = true ∧ r.build a 0 = Instr.mmc1PrgramRead a)

theorem RowListed.mmc1PrgramWrite (a : Word) (v : Byte) : RowListed.Statement (.mmc1PrgramWrite a v) := fun h =>
  (⟨_, .tail _ (.tail _ (.tail _ (.tail _ (.tail _ (.head _))))), write_row h, rfl⟩ :
    ∃ r ∈ cpuWriteRows .mmc1, r.accepts a v = true ∧ r.build a v = Instr.mmc1PrgramWrite a v)

theorem RowListed.mmc3BankSelect (a : Word) (v : Byte) : RowListed.Statement (.mmc3BankSelect a v) := fun h =>
  (⟨_, .head _, write_row h, rfl⟩ :
    ∃ r ∈ cpuWriteRows .mmc3, r.accepts a v = true ∧ r.build a v = Instr.mmc3BankSelect a v)

theorem RowListed.mmc3BankData (a : Word) (v : Byte) : RowListed.Statement (.mmc3BankData a v) := fun h =>
  (⟨_, .tail _ (.head _), write_row h, rfl⟩ :
    ∃ r ∈ cpuWriteRows .mmc3, r.accepts a v = true ∧ r.build a v = Instr.mmc3BankData a v)

theorem RowListed.mmc3Mirroring (a : Word) (v : Byte) : RowListed.Statement (.mmc3Mirroring a v) := fun h =>
  (⟨_, .tail _ (.tail _ (.head _)), write_row h, rfl⟩ :
    ∃ r ∈ cpuWriteRows .mmc3, r.accepts a v = true ∧ r.build a v = Instr.mmc3Mirroring a v)

theorem RowListed.mmc3PrgRamProtect (a : Word) (v : Byte) : RowListed.Statement (.mmc3PrgRamProtect a v) := fun h =>
  (⟨_, .tail _ (.tail _ (.tail _ (.head _))), write_row h, rfl⟩ :
    ∃ r ∈ cpuWriteRows .mmc3, r.accepts a v = true ∧ r.build a v = Instr.mmc3PrgRamProtect a v)

theorem RowListed.mmc3IrqLatch (a : Word) (v : Byte) : RowListed.Statement (.mmc3IrqLatch a v) := fun h =>
  (⟨_, .tail _ (.tail _ (.tail _ (.tail _ (.head _)))), write_row h, rfl⟩ :
    ∃ r ∈ cpuWriteRows .mmc3, r.accepts a v = true ∧ r.build a v = Instr.mmc3IrqLatch a v)

theorem RowListed.mmc3IrqReload (a : Word) (v : Byte) : RowListed.Statement (.mmc3IrqReload a v) := fun h =>
  (⟨_, .tail _ (.tail _ (.tail _ (.tail _ (.tail _ (.head _))))), write_row h, rfl⟩ :
    ∃ r ∈ cpuWriteRows .mmc3, r.accepts a v = true ∧ r.build a v = Instr.mmc3IrqReload a v)

theorem RowListed.mmc3IrqDisable (a : Word) (v : Byte) : RowListed.Statement (.mmc3IrqDisable a v) := fun h =>
  (⟨_, .tail _ (.tail _ (.tail _ (.tail _ (.tail _ (.tail _ (.head _)))))), write_row h, rfl⟩ :
    ∃ r ∈ cpuWriteRows .mmc3, r.accepts a v = true ∧ r.build a v = Instr.mmc3IrqDisable a v)

theorem RowListed.mmc3IrqEnable (a : Word) (v : Byte) : RowListed.Statement (.mmc3IrqEnable a v) := fun h =>
  (⟨_, .tail _ (.tail _ (.tail _ (.tail _ (.tail _ (.tail _ (.tail _ (.head _))))))), write_row h, rfl⟩ :
    ∃ r ∈ cpuWriteRows .mmc3, r.accepts a v = true ∧ r.build a v = Instr.mmc3IrqEnable a v)

theorem RowListed.mmc3PrgRead (a : Word) : RowListed.Statement (.mmc3PrgRead a) := fun h =>
  (⟨_, .head _, read_row h, rfl⟩ :
    ∃ r ∈ cpuReadRows .mmc3, r.accepts a 0 = true ∧ r.build a 0 = Instr.mmc3PrgRead a)

theorem RowListed.mmc3PrgramRead (a : Word) : RowListed.Statement (.mmc3PrgramRead a) := fun h =>
  (⟨_, .tail _ (.head _), read_row h, rfl⟩ :
    ∃ r ∈ cpuReadRows .mmc3, r.accepts a 0 = true ∧ r.build a 0 = Instr.mmc3PrgramRead a)

theorem RowListed.mmc3PrgramWrite (a : Word) (v : Byte) : RowListed.Statement (.mmc3PrgramWrite a v) := fun h =>
  (⟨_, .tail _ (.tail _ (.tail _ (.tail _ (.tail _ (.tail _ (.tail _ (.tail _ (.head _)))))))), write_row h, rfl⟩ :
    ∃ r ∈ cpuWriteRows .mmc3, r.accepts a v = true ∧ r.build a v = Instr.mmc3PrgramWrite a v)

theorem RowListed.mmc3ChrRead (a : ChrAddr) : RowListed.Statement (.mmc3ChrRead a) :=
  fun _ => congrArg (Instr.mmc3ChrRead ·) (chr_addr a)

theorem RowListed.mmc3ChrWrite (a : ChrAddr) (v : Byte) : RowListed.Statement (.mmc3ChrWrite a v) :=
  fun _ => congrArg (Instr.mmc3ChrWrite · v) (chr_addr a)

theorem RowListed.mmc2PrgBank (a : Word) (v : Byte) : RowListed.Statement (.mmc2PrgBank a v) := fun h =>
  (⟨_, .head _, write_row h, rfl⟩ :
    ∃ r ∈ cpuWriteRows .mmc2, r.accepts a v = true ∧ r.build a v = Instr.mmc2PrgBank a v)

theorem RowListed.mmc2ChrFd0 (a : Word) (v : Byte) : RowListed.Statement (.mmc2ChrFd0 a v) := fun h =>
  (⟨_, .tail _ (.head _), write_row h, rfl⟩ :
    ∃ r ∈ cpuWriteRows .mmc2, r.accepts a v = true ∧ r.build a v = Instr.mmc2ChrFd0 a v)

theorem RowListed.mmc2ChrFe0 (a : Word) (v : Byte) : RowListed.Statement (.mmc2ChrFe0 a v) := fun h =>
  (⟨_, .tail _ (.tail _ (.head _)), write_row h, rfl⟩ :
    ∃ r ∈ cpuWriteRows .mmc2, r.accepts a v = true ∧ r.build a v = Instr.mmc2ChrFe0 a v)

theorem RowListed.mmc2ChrFd1 (a : Word) (v : Byte) : RowListed.Statement (.mmc2ChrFd1 a v) := fun h =>
  (⟨_, .tail _ (.tail _ (.tail _ (.head _))), write_row h, rfl⟩ :
    ∃ r ∈ cpuWriteRows .mmc2, r.accepts a v = true ∧ r.build a v = Instr.mmc2ChrFd1 a v)

theorem RowListed.mmc2ChrFe1 (a : Word) (v : Byte) : RowListed.Statement (.mmc2ChrFe1 a v) := fun h =>
  (⟨_, .tail _ (.tail _ (.tail _ (.tail _ (.head _)))), write_row h, rfl⟩ :
    ∃ r ∈ cpuWriteRows .mmc2, r.accepts a v = true ∧ r.build a v = Instr.mmc2ChrFe1 a v)

theorem RowListed.mmc2Mirroring (a : Word) (v : Byte) : RowListed.Statement (.mmc2Mirroring a v) := fun h =>
  (⟨_, .tail _ (.tail _ (.tail _ (.tail _ (.tail _ (.head _))))), write_row h, rfl⟩ :
    ∃ r ∈ cpuWriteRows .mmc2, r.accepts a v = true ∧ r.build a v = Instr.mmc2Mirroring a v)

theorem RowListed.mmc2IgnoredWrite (a : Word) (v : Byte) : RowListed.Statement (.mmc2IgnoredWrite a v) := fun h =>
  (⟨_, .tail _ (.tail _ (.tail _ (.tail _ (.tail _ (.tail _ (.head _)))))), write_row h, rfl⟩ :
    ∃ r ∈ cpuWriteRows .mmc2, r.accepts a v = true ∧ r.build a v = Instr.mmc2IgnoredWrite a v)

theorem RowListed.mmc2PrgRead (a : Word) : RowListed.Statement (.mmc2PrgRead a) := fun h =>
  (⟨_, .head _, read_row h, rfl⟩ :
    ∃ r ∈ cpuReadRows .mmc2, r.accepts a 0 = true ∧ r.build a 0 = Instr.mmc2PrgRead a)

theorem RowListed.mmc2ChrRead (a : ChrAddr) : RowListed.Statement (.mmc2ChrRead a) :=
  fun _ => congrArg (Instr.mmc2ChrRead ·) (chr_addr a)

theorem RowListed.mmc2ChrWrite (a : ChrAddr) (v : Byte) : RowListed.Statement (.mmc2ChrWrite a v) :=
  fun _ => congrArg (Instr.mmc2ChrWrite · v) (chr_addr a)

theorem RowListed.mmc2PrgramRead (a : Word) : RowListed.Statement (.mmc2PrgramRead a) := fun h =>
  (⟨_, .tail _ (.head _), read_row h, rfl⟩ :
    ∃ r ∈ cpuReadRows .mmc2, r.accepts a 0 = true ∧ r.build a 0 = Instr.mmc2PrgramRead a)

theorem RowListed.mmc2PrgramWrite (a : Word) (v : Byte) : RowListed.Statement (.mmc2PrgramWrite a v) := fun h =>
  (⟨_, .tail _ (.tail _ (.tail _ (.tail _ (.tail _ (.tail _ (.tail _ (.head _))))))), write_row h, rfl⟩ :
    ∃ r ∈ cpuWriteRows .mmc2, r.accepts a v = true ∧ r.build a v = Instr.mmc2PrgramWrite a v)

theorem RowListed.mmc4PrgBank (a : Word) (v : Byte) : RowListed.Statement (.mmc4PrgBank a v) := fun h =>
  (⟨_, .head _, write_row h, rfl⟩ :
    ∃ r ∈ cpuWriteRows .mmc4, r.accepts a v = true ∧ r.build a v = Instr.mmc4PrgBank a v)

theorem RowListed.mmc4ChrFd0 (a : Word) (v : Byte) : RowListed.Statement (.mmc4ChrFd0 a v) := fun h =>
  (⟨_, .tail _ (.head _), write_row h, rfl⟩ :
    ∃ r ∈ cpuWriteRows .mmc4, r.accepts a v = true ∧ r.build a v = Instr.mmc4ChrFd0 a v)

theorem RowListed.mmc4ChrFe0 (a : Word) (v : Byte) : RowListed.Statement (.mmc4ChrFe0 a v) := fun h =>
  (⟨_, .tail _ (.tail _ (.head _)), write_row h, rfl⟩ :
    ∃ r ∈ cpuWriteRows .mmc4, r.accepts a v = true ∧ r.build a v = Instr.mmc4ChrFe0 a v)

theorem RowListed.mmc4ChrFd1 (a : Word) (v : Byte) : RowListed.Statement (.mmc4ChrFd1 a v) := fun h =>
  (⟨_, .tail _ (.tail _ (.tail _ (.head _))), write_row h, rfl⟩ :
    ∃ r ∈ cpuWriteRows .mmc4, r.accepts a v = true ∧ r.build a v = Instr.mmc4ChrFd1 a v)

theorem RowListed.mmc4ChrFe1 (a : Word) (v : Byte) : RowListed.Statement (.mmc4ChrFe1 a v) := fun h =>
  (⟨_, .tail _ (.tail _ (.tail _ (.tail _ (.head _)))), write_row h, rfl⟩ :
    ∃ r ∈ cpuWriteRows .mmc4, r.accepts a v = true ∧ r.build a v = Instr.mmc4ChrFe1 a v)

theorem RowListed.mmc4Mirroring (a : Word) (v : Byte) : RowListed.Statement (.mmc4Mirroring a v) := fun h =>
  (⟨_, .tail _ (.tail _ (.tail _ (.tail _ (.tail _ (.head _))))), write_row h, rfl⟩ :
    ∃ r ∈ cpuWriteRows .mmc4, r.accepts a v = true ∧ r.build a v = Instr.mmc4Mirroring a v)

theorem RowListed.mmc4IgnoredWrite (a : Word) (v : Byte) : RowListed.Statement (.mmc4IgnoredWrite a v) := fun h =>
  (⟨_, .tail _ (.tail _ (.tail _ (.tail _ (.tail _ (.tail _ (.head _)))))), write_row h, rfl⟩ :
    ∃ r ∈ cpuWriteRows .mmc4, r.accepts a v = true ∧ r.build a v = Instr.mmc4IgnoredWrite a v)

theorem RowListed.mmc4PrgRead (a : Word) : RowListed.Statement (.mmc4PrgRead a) := fun h =>
  (⟨_, .head _, read_row h, rfl⟩ :
    ∃ r ∈ cpuReadRows .mmc4, r.accepts a 0 = true ∧ r.build a 0 = Instr.mmc4PrgRead a)

theorem RowListed.mmc4ChrRead (a : ChrAddr) : RowListed.Statement (.mmc4ChrRead a) :=
  fun _ => congrArg (Instr.mmc4ChrRead ·) (chr_addr a)

theorem RowListed.mmc4ChrWrite (a : ChrAddr) (v : Byte) : RowListed.Statement (.mmc4ChrWrite a v) :=
  fun _ => congrArg (Instr.mmc4ChrWrite · v) (chr_addr a)

theorem RowListed.mmc4PrgramRead (a : Word) : RowListed.Statement (.mmc4PrgramRead a) := fun h =>
  (⟨_, .tail _ (.head _), read_row h, rfl⟩ :
    ∃ r ∈ cpuReadRows .mmc4, r.accepts a 0 = true ∧ r.build a 0 = Instr.mmc4PrgramRead a)

theorem RowListed.mmc4PrgramWrite (a : Word) (v : Byte) : RowListed.Statement (.mmc4PrgramWrite a v) := fun h =>
  (⟨_, .tail _ (.tail _ (.tail _ (.tail _ (.tail _ (.tail _ (.tail _ (.head _))))))), write_row h, rfl⟩ :
    ∃ r ∈ cpuWriteRows .mmc4, r.accepts a v = true ∧ r.build a v = Instr.mmc4PrgramWrite a v)

theorem RowListed.mmc5AudioWrite (a : Word) (v : Byte) : RowListed.Statement (.mmc5AudioWrite a v) := fun h =>
  (⟨_, .head _, write_row h, rfl⟩ :
    ∃ r ∈ cpuWriteRows .mmc5, r.accepts a v = true ∧ r.build a v = Instr.mmc5AudioWrite a v)

theorem RowListed.mmc5AudioWriteHi (a : Word) (v : Byte) : RowListed.Statement (.mmc5AudioWriteHi a v) := fun h =>
  (⟨_, .tail _ (.head _), write_row h, rfl⟩ :
    ∃ r ∈ cpuWriteRows .mmc5, r.accepts a v = true ∧ r.build a v = Instr.mmc5AudioWriteHi a v)

theorem RowListed.mmc5AudioWriteTop (a : Word) (v : Byte) : RowListed.Statement (.mmc5AudioWriteTop a v) := fun h =>
  (⟨_, .tail _ (.tail _ (.head _)), write_row h, rfl⟩ :
    ∃ r ∈ cpuWriteRows .mmc5, r.accepts a v = true ∧ r.build a v = Instr.mmc5AudioWriteTop a v)

theorem RowListed.mmc5PrgMode (a : Word) (v : Byte) : RowListed.Statement (.mmc5PrgMode a v) := fun h =>
  (⟨_, .tail _ (.tail _ (.tail _ (.head _))), write_row h, rfl⟩ :
    ∃ r ∈ cpuWriteRows .mmc5, r.accepts a v = true ∧ r.build a v = Instr.mmc5PrgMode a v)

theorem RowListed.mmc5ChrMode (a : Word) (v : Byte) : RowListed.Statement (.mmc5ChrMode a v) := fun h =>
  (⟨_, .tail _ (.tail _ (.tail _ (.tail _ (.head _)))), write_row h, rfl⟩ :
    ∃ r ∈ cpuWriteRows .mmc5, r.accepts a v = true ∧ r.build a v = Instr.mmc5ChrMode a v)

theorem RowListed.mmc5RamProtect1 (a : Word) (v : Byte) : RowListed.Statement (.mmc5RamProtect1 a v) := fun h =>
  (⟨_, .tail _ (.tail _ (.tail _ (.tail _ (.tail _ (.head _))))), write_row h, rfl⟩ :
    ∃ r ∈ cpuWriteRows .mmc5, r.accepts a v = true ∧ r.build a v = Instr.mmc5RamProtect1 a v)

theorem RowListed.mmc5RamProtect2 (a : Word) (v : Byte) : RowListed.Statement (.mmc5RamProtect2 a v) := fun h =>
  (⟨_, .tail _ (.tail _ (.tail _ (.tail _ (.tail _ (.tail _ (.head _)))))), write_row h, rfl⟩ :
    ∃ r ∈ cpuWriteRows .mmc5, r.accepts a v = true ∧ r.build a v = Instr.mmc5RamProtect2 a v)

theorem RowListed.mmc5ExramMode (a : Word) (v : Byte) : RowListed.Statement (.mmc5ExramMode a v) := fun h =>
  (⟨_, .tail _ (.tail _ (.tail _ (.tail _ (.tail _ (.tail _ (.tail _ (.head _))))))), write_row h, rfl⟩ :
    ∃ r ∈ cpuWriteRows .mmc5, r.accepts a v = true ∧ r.build a v = Instr.mmc5ExramMode a v)

theorem RowListed.mmc5NtMap (a : Word) (v : Byte) : RowListed.Statement (.mmc5NtMap a v) := fun h =>
  (⟨_, .tail _ (.tail _ (.tail _ (.tail _ (.tail _ (.tail _ (.tail _ (.tail _ (.head _)))))))), write_row h, rfl⟩ :
    ∃ r ∈ cpuWriteRows .mmc5, r.accepts a v = true ∧ r.build a v = Instr.mmc5NtMap a v)

theorem RowListed.mmc5FillTile (a : Word) (v : Byte) : RowListed.Statement (.mmc5FillTile a v) := fun h =>
  (⟨_, .tail _ (.tail _ (.tail _ (.tail _ (.tail _ (.tail _ (.tail _ (.tail _ (.tail _ (.head _))))))))), write_row h, rfl⟩ :
    ∃ r ∈ cpuWriteRows .mmc5, r.accepts a v = true ∧ r.build a v = Instr.mmc5FillTile a v)

theorem RowListed.mmc5FillAttr (a : Word) (v : Byte) : RowListed.Statement (.mmc5FillAttr a v) := fun h =>
  (⟨_, .tail _ (.tail _ (.tail _ (.tail _ (.tail _ (.tail _ (.tail _ (.tail _ (.tail _ (.tail _ (.head _)))))))))), write_row h, rfl⟩ :
    ∃ r ∈ cpuWriteRows .mmc5, r.accepts a v = true ∧ r.build a v = Instr.mmc5FillAttr a v)

theorem RowListed.mmc5PrgRamBank (a : Word) (v : Byte) : RowListed.Statement (.mmc5PrgRamBank a v) := fun h =>
  (⟨_, .tail _ (.tail _ (.tail _ (.tail _ (.tail _ (.tail _ (.tail _ (.tail _ (.tail _ (.tail _ (.tail _ (.head _))))))))))), write_row h, rfl⟩ :
    ∃ r ∈ cpuWriteRows .mmc5, r.accepts a v = true ∧ r.build a v = Instr.mmc5PrgRamBank a v)

theorem RowListed.mmc5ChrUpper (a : Word) (v : Byte) : RowListed.Statement (.mmc5ChrUpper a v) := fun h =>
  (⟨_, .tail _ (.tail _ (.tail _ (.tail _ (.tail _ (.tail _ (.tail _ (.tail _ (.tail _ (.tail _ (.tail _ (.tail _ (.head _)))))))))))), write_row h, rfl⟩ :
    ∃ r ∈ cpuWriteRows .mmc5, r.accepts a v = true ∧ r.build a v = Instr.mmc5ChrUpper a v)

theorem RowListed.mmc5IrqTarget (a : Word) (v : Byte) : RowListed.Statement (.mmc5IrqTarget a v) := fun h =>
  (⟨_, .tail _ (.tail _ (.tail _ (.tail _ (.tail _ (.tail _ (.tail _ (.tail _ (.tail _ (.tail _ (.tail _ (.tail _ (.tail _ (.head _))))))))))))), write_row h, rfl⟩ :
    ∃ r ∈ cpuWriteRows .mmc5, r.accepts a v = true ∧ r.build a v = Instr.mmc5IrqTarget a v)

theorem RowListed.mmc5IrqEnable (a : Word) (v : Byte) : RowListed.Statement (.mmc5IrqEnable a v) := fun h =>
  (⟨_, .tail _ (.tail _ (.tail _ (.tail _ (.tail _ (.tail _ (.tail _ (.tail _ (.tail _ (.tail _ (.tail _ (.tail _ (.tail _ (.tail _ (.head _)))))))))))))), write_row h, rfl⟩ :
    ∃ r ∈ cpuWriteRows .mmc5, r.accepts a v = true ∧ r.build a v = Instr.mmc5IrqEnable a v)

theorem RowListed.mmc5MulA (a : Word) (v : Byte) : RowListed.Statement (.mmc5MulA a v) := fun h =>
  (⟨_, .tail _ (.tail _ (.tail _ (.tail _ (.tail _ (.tail _ (.tail _ (.tail _ (.tail _ (.tail _ (.tail _ (.tail _ (.tail _ (.tail _ (.tail _ (.head _))))))))))))))), write_row h, rfl⟩ :
    ∃ r ∈ cpuWriteRows .mmc5, r.accepts a v = true ∧ r.build a v = Instr.mmc5MulA a v)

theorem RowListed.mmc5MulB (a : Word) (v : Byte) : RowListed.Statement (.mmc5MulB a v) := fun h =>
  (⟨_, .tail _ (.tail _ (.tail _ (.tail _ (.tail _ (.tail _ (.tail _ (.tail _ (.tail _ (.tail _ (.tail _ (.tail _ (.tail _ (.tail _ (.tail _ (.tail _ (.head _)))))))))))))))), write_row h, rfl⟩ :
    ∃ r ∈ cpuWriteRows .mmc5, r.accepts a v = true ∧ r.build a v = Instr.mmc5MulB a v)

theorem RowListed.mmc5PrgBank (a : Word) (v : Byte) : RowListed.Statement (.mmc5PrgBank a v) := fun h =>
  (⟨_, .tail _ (.tail _ (.tail _ (.tail _ (.tail _ (.tail _ (.tail _ (.tail _ (.tail _ (.tail _ (.tail _ (.tail _ (.tail _ (.tail _ (.tail _ (.tail _ (.tail _ (.head _))))))))))))))))), write_row h, rfl⟩ :
    ∃ r ∈ cpuWriteRows .mmc5, r.accepts a v = true ∧ r.build a v = Instr.mmc5PrgBank a v)

theorem RowListed.mmc5ChrBank (a : Word) (v : Byte) : RowListed.Statement (.mmc5ChrBank a v) := fun h =>
  (⟨_, .tail _ (.tail _ (.tail _ (.tail _ (.tail _ (.tail _ (.tail _ (.tail _ (.tail _ (.tail _ (.tail _ (.tail _ (.tail _ (.tail _ (.tail _ (.tail _ (.tail _ (.tail _ (.head _)))))))))))))))))), write_row h, rfl⟩ :
    ∃ r ∈ cpuWriteRows .mmc5, r.accepts a v = true ∧ r.build a v = Instr.mmc5ChrBank a v)

theorem RowListed.mmc5ChrBankB (a : Word) (v : Byte) : RowListed.Statement (.mmc5ChrBankB a v) := fun h =>
  (⟨_, .tail _ (.tail _ (.tail _ (.tail _ (.tail _ (.tail _ (.tail _ (.tail _ (.tail _ (.tail _ (.tail _ (.tail _ (.tail _ (.tail _ (.tail _ (.tail _ (.tail _ (.tail _ (.tail _ (.head _))))))))))))))))))), write_row h, rfl⟩ :
    ∃ r ∈ cpuWriteRows .mmc5, r.accepts a v = true ∧ r.build a v = Instr.mmc5ChrBankB a v)

theorem RowListed.mmc5IrqStatus (a : Word) : RowListed.Statement (.mmc5IrqStatus a) := fun h =>
  (⟨_, .head _, read_row h, rfl⟩ :
    ∃ r ∈ cpuReadRows .mmc5, r.accepts a 0 = true ∧ r.build a 0 = Instr.mmc5IrqStatus a)

theorem RowListed.mmc5MulLo (a : Word) : RowListed.Statement (.mmc5MulLo a) := fun h =>
  (⟨_, .tail _ (.head _), read_row h, rfl⟩ :
    ∃ r ∈ cpuReadRows .mmc5, r.accepts a 0 = true ∧ r.build a 0 = Instr.mmc5MulLo a)

theorem RowListed.mmc5MulHi (a : Word) : RowListed.Statement (.mmc5MulHi a) := fun h =>
  (⟨_, .tail _ (.tail _ (.head _)), read_row h, rfl⟩ :
    ∃ r ∈ cpuReadRows .mmc5, r.accepts a 0 = true ∧ r.build a 0 = Instr.mmc5MulHi a)

theorem RowListed.mmc5ExramRead (a : Word) : RowListed.Statement (.mmc5ExramRead a) := fun h =>
  (⟨_, .tail _ (.tail _ (.tail _ (.head _))), read_row h, rfl⟩ :
    ∃ r ∈ cpuReadRows .mmc5, r.accepts a 0 = true ∧ r.build a 0 = Instr.mmc5ExramRead a)

theorem RowListed.mmc5ExramWrite (a : Word) (v : Byte) : RowListed.Statement (.mmc5ExramWrite a v) := fun h =>
  (⟨_, .tail _ (.tail _ (.tail _ (.tail _ (.tail _ (.tail _ (.tail _ (.tail _ (.tail _ (.tail _ (.tail _ (.tail _ (.tail _ (.tail _ (.tail _ (.tail _ (.tail _ (.tail _ (.tail _ (.tail _ (.head _)))))))))))))))))))), write_row h, rfl⟩ :
    ∃ r ∈ cpuWriteRows .mmc5, r.accepts a v = true ∧ r.build a v = Instr.mmc5ExramWrite a v)

theorem RowListed.mmc5PrgramRead (a : Word) : RowListed.Statement (.mmc5PrgramRead a) := fun h =>
  (⟨_, .tail _ (.tail _ (.tail _ (.tail _ (.head _)))), read_row h, rfl⟩ :
    ∃ r ∈ cpuReadRows .mmc5, r.accepts a 0 = true ∧ r.build a 0 = Instr.mmc5PrgramRead a)

theorem RowListed.mmc5PrgRead (a : Word) : RowListed.Statement (.mmc5PrgRead a) := fun h =>
  (⟨_, .tail _ (.tail _ (.tail _ (.tail _ (.tail _ (.head _))))), read_row h, rfl⟩ :
    ∃ r ∈ cpuReadRows .mmc5, r.accepts a 0 = true ∧ r.build a 0 = Instr.mmc5PrgRead a)

theorem RowListed.mmc5PrgramWrite (a : Word) (v : Byte) : RowListed.Statement (.mmc5PrgramWrite a v) := fun h =>
  (⟨_, .tail _ (.tail _ (.tail _ (.tail _ (.tail _ (.tail _ (.tail _ (.tail _ (.tail _ (.tail _ (.tail _ (.tail _ (.tail _ (.tail _ (.tail _ (.tail _ (.tail _ (.tail _ (.tail _ (.tail _ (.tail _ (.head _))))))))))))))))))))), write_row h, rfl⟩ :
    ∃ r ∈ cpuWriteRows .mmc5, r.accepts a v = true ∧ r.build a v = Instr.mmc5PrgramWrite a v)

theorem RowListed.mmc5PrgWrite (a : Word) (v : Byte) : RowListed.Statement (.mmc5PrgWrite a v) := fun h =>
  (⟨_, .tail _ (.tail _ (.tail _ (.tail _ (.tail _ (.tail _ (.tail _ (.tail _ (.tail _ (.tail _ (.tail _ (.tail _ (.tail _ (.tail _ (.tail _ (.tail _ (.tail _ (.tail _ (.tail _ (.tail _ (.tail _ (.tail _ (.head _)))))))))))))))))))))), write_row h, rfl⟩ :
    ∃ r ∈ cpuWriteRows .mmc5, r.accepts a v = true ∧ r.build a v = Instr.mmc5PrgWrite a v)

theorem RowListed.mmc5ChrRead (a : ChrAddr) : RowListed.Statement (.mmc5ChrRead a) :=
  fun _ => congrArg (Instr.mmc5ChrRead ·) (chr_addr a)

theorem RowListed.mmc5ChrWrite (a : ChrAddr) (v : Byte) : RowListed.Statement (.mmc5ChrWrite a v) :=
  fun _ => congrArg (Instr.mmc5ChrWrite · v) (chr_addr a)

theorem RowListed.vrc6Prg16 (a : Word) (v : Byte) : RowListed.Statement (.vrc6Prg16 a v) := fun h =>
  (⟨_, .head _, write_row h, rfl⟩ :
    ∃ r ∈ cpuWriteRows .vrc6, r.accepts a v = true ∧ r.build a v = Instr.vrc6Prg16 a v)

theorem RowListed.vrc6Audio9 (a : Word) (v : Byte) : RowListed.Statement (.vrc6Audio9 a v) := fun h =>
  (⟨_, .tail _ (.head _), write_row h, rfl⟩ :
    ∃ r ∈ cpuWriteRows .vrc6, r.accepts a v = true ∧ r.build a v = Instr.vrc6Audio9 a v)

theorem RowListed.vrc6AudioA0 (a : Word) (v : Byte) : RowListed.Statement (.vrc6AudioA0 a v) := fun h =>
  (⟨_, .tail _ (.tail _ (.head _)), write_row h, rfl⟩ :
    ∃ r ∈ cpuWriteRows .vrc6, r.accepts a v = true ∧ r.build a v = Instr.vrc6AudioA0 a v)

theorem RowListed.vrc6AudioA1 (a : Word) (v : Byte) : RowListed.Statement (.vrc6AudioA1 a v) := fun h =>
  (⟨_, .tail _ (.tail _ (.tail _ (.head _))), write_row h, rfl⟩ :
    ∃ r ∈ cpuWriteRows .vrc6, r.accepts a v = true ∧ r.build a v = Instr.vrc6AudioA1 a v)

theorem RowListed.vrc6AudioA2 (a : Word) (v : Byte) : RowListed.Statement (.vrc6AudioA2 a v) := fun h =>
  (⟨_, .tail _ (.tail _ (.tail _ (.tail _ (.head _)))), write_row h, rfl⟩ :
    ∃ r ∈ cpuWriteRows .vrc6, r.accepts a v = true ∧ r.build a v = Instr.vrc6AudioA2 a v)

theorem RowListed.vrc6AudioB0 (a : Word) (v : Byte) : RowListed.Statement (.vrc6AudioB0 a v) := fun h =>
  (⟨_, .tail _ (.tail _ (.tail _ (.tail _ (.tail _ (.head _))))), write_row h, rfl⟩ :
    ∃ r ∈ cpuWriteRows .vrc6, r.accepts a v = true ∧ r.build a v = Instr.vrc6AudioB0 a v)

theorem RowListed.vrc6AudioB1 (a : Word) (v : Byte) : RowListed.Statement (.vrc6AudioB1 a v) := fun h =>
  (⟨_, .tail _ (.tail _ (.tail _ (.tail _ (.tail _ (.tail _ (.head _)))))), write_row h, rfl⟩ :
    ∃ r ∈ cpuWriteRows .vrc6, r.accepts a v = true ∧ r.build a v = Instr.vrc6AudioB1 a v)

theorem RowListed.vrc6AudioB2 (a : Word) (v : Byte) : RowListed.Statement (.vrc6AudioB2 a v) := fun h =>
  (⟨_, .tail _ (.tail _ (.tail _ (.tail _ (.tail _ (.tail _ (.tail _ (.head _))))))), write_row h, rfl⟩ :
    ∃ r ∈ cpuWriteRows .vrc6, r.accepts a v = true ∧ r.build a v = Instr.vrc6AudioB2 a v)

theorem RowListed.vrc6Ctrl (a : Word) (v : Byte) : RowListed.Statement (.vrc6Ctrl a v) := fun h =>
  (⟨_, .tail _ (.tail _ (.tail _ (.tail _ (.tail _ (.tail _ (.tail _ (.tail _ (.head _)))))))), write_row h, rfl⟩ :
    ∃ r ∈ cpuWriteRows .vrc6, r.accepts a v = true ∧ r.build a v = Instr.vrc6Ctrl a v)

theorem RowListed.vrc6Prg8 (a : Word) (v : Byte) : RowListed.Statement (.vrc6Prg8 a v) := fun h =>
  (⟨_, .tail _ (.tail _ (.tail _ (.tail _ (.tail _ (.tail _ (.tail _ (.tail _ (.tail _ (.head _))))))))), write_row h, rfl⟩ :
    ∃ r ∈ cpuWriteRows .vrc6, r.accepts a v = true ∧ r.build a v = Instr.vrc6Prg8 a v)

theorem RowListed.vrc6ChrD (a : Word) (v : Byte) : RowListed.Statement (.vrc6ChrD a v) := fun h =>
  (⟨_, .tail _ (.tail _ (.tail _ (.tail _ (.tail _ (.tail _ (.tail _ (.tail _ (.tail _ (.tail _ (.head _)))))))))), write_row h, rfl⟩ :
    ∃ r ∈ cpuWriteRows .vrc6, r.accepts a v = true ∧ r.build a v = Instr.vrc6ChrD a v)

theorem RowListed.vrc6ChrE (a : Word) (v : Byte) : RowListed.Statement (.vrc6ChrE a v) := fun h =>
  (⟨_, .tail _ (.tail _ (.tail _ (.tail _ (.tail _ (.tail _ (.tail _ (.tail _ (.tail _ (.tail _ (.tail _ (.head _))))))))))), write_row h, rfl⟩ :
    ∃ r ∈ cpuWriteRows .vrc6, r.accepts a v = true ∧ r.build a v = Instr.vrc6ChrE a v)

theorem RowListed.vrc6IrqLatch (a : Word) (v : Byte) : RowListed.Statement (.vrc6IrqLatch a v) := fun h =>
  (⟨_, .tail _ (.tail _ (.tail _ (.tail _ (.tail _ (.tail _ (.tail _ (.tail _ (.tail _ (.tail _ (.tail _ (.tail _ (.head _)))))))))))), write_row h, rfl⟩ :
    ∃ r ∈ cpuWriteRows .vrc6, r.accepts a v = true ∧ r.build a v = Instr.vrc6IrqLatch a v)

theorem RowListed.vrc6IrqControl (a : Word) (v : Byte) : RowListed.Statement (.vrc6IrqControl a v) := fun h =>
  (⟨_, .tail _ (.tail _ (.tail _ (.tail _ (.tail _ (.tail _ (.tail _ (.tail _ (.tail _ (.tail _ (.tail _ (.tail _ (.tail _ (.head _))))))))))))), write_row h, rfl⟩ :
    ∃ r ∈ cpuWriteRows .vrc6, r.accepts a v = true ∧ r.build a v = Instr.vrc6IrqControl a v)

theorem RowListed.vrc6IrqAck (a : Word) (v : Byte) : RowListed.Statement (.vrc6IrqAck a v) := fun h =>
  (⟨_, .tail _ (.tail _ (.tail _ (.tail _ (.tail _ (.tail _ (.tail _ (.tail _ (.tail _ (.tail _ (.tail _ (.tail _ (.tail _ (.tail _ (.head _)))))))))))))), write_row h, rfl⟩ :
    ∃ r ∈ cpuWriteRows .vrc6, r.accepts a v = true ∧ r.build a v = Instr.vrc6IrqAck a v)

theorem RowListed.vrc6IgnoredA003 (a : Word) (v : Byte) : RowListed.Statement (.vrc6IgnoredA003 a v) := fun h =>
  (⟨_, .tail _ (.tail _ (.tail _ (.tail _ (.tail _ (.tail _ (.tail _ (.tail _ (.tail _ (.tail _ (.tail _ (.tail _ (.tail _ (.tail _ (.tail _ (.head _))))))))))))))), write_row h, rfl⟩ :
    ∃ r ∈ cpuWriteRows .vrc6, r.accepts a v = true ∧ r.build a v = Instr.vrc6IgnoredA003 a v)

theorem RowListed.vrc6IgnoredF003 (a : Word) (v : Byte) : RowListed.Statement (.vrc6IgnoredF003 a v) := fun h =>
  (⟨_, .tail _ (.tail _ (.tail _ (.tail _ (.tail _ (.tail _ (.tail _ (.tail _ (.tail _ (.tail _ (.tail _ (.tail _ (.tail _ (.tail _ (.tail _ (.tail _ (.head _)))))))))))))))), write_row h, rfl⟩ :
    ∃ r ∈ cpuWriteRows .vrc6, r.accepts a v = true ∧ r.build a v = Instr.vrc6IgnoredF003 a v)

theorem RowListed.vrc6PrgRead (a : Word) : RowListed.Statement (.vrc6PrgRead a) := fun h =>
  (⟨_, .head _, read_row h, rfl⟩ :
    ∃ r ∈ cpuReadRows .vrc6, r.accepts a 0 = true ∧ r.build a 0 = Instr.vrc6PrgRead a)

theorem RowListed.vrc6PrgramRead (a : Word) : RowListed.Statement (.vrc6PrgramRead a) := fun h =>
  (⟨_, .tail _ (.head _), read_row h, rfl⟩ :
    ∃ r ∈ cpuReadRows .vrc6, r.accepts a 0 = true ∧ r.build a 0 = Instr.vrc6PrgramRead a)

theorem RowListed.vrc6PrgramWrite (a : Word) (v : Byte) : RowListed.Statement (.vrc6PrgramWrite a v) := fun h =>
  (⟨_, .tail _ (.tail _ (.tail _ (.tail _ (.tail _ (.tail _ (.tail _ (.tail _ (.tail _ (.tail _ (.tail _ (.tail _ (.tail _ (.tail _ (.tail _ (.tail _ (.tail _ (.head _))))))))))))))))), write_row h, rfl⟩ :
    ∃ r ∈ cpuWriteRows .vrc6, r.accepts a v = true ∧ r.build a v = Instr.vrc6PrgramWrite a v)

theorem RowListed.vrc6ChrRead (a : ChrAddr) : RowListed.Statement (.vrc6ChrRead a) :=
  fun _ => congrArg (Instr.vrc6ChrRead ·) (chr_addr a)

theorem RowListed.vrc6ChrWrite (a : ChrAddr) (v : Byte) : RowListed.Statement (.vrc6ChrWrite a v) :=
  fun _ => congrArg (Instr.vrc6ChrWrite · v) (chr_addr a)

theorem RowListed.vrc6aPrg16 (a : Word) (v : Byte) : RowListed.Statement (.vrc6aPrg16 a v) := fun h =>
  (⟨_, .head _, write_row h, rfl⟩ :
    ∃ r ∈ cpuWriteRows .vrc6a, r.accepts a v = true ∧ r.build a v = Instr.vrc6aPrg16 a v)

theorem RowListed.vrc6aAudio9 (a : Word) (v : Byte) : RowListed.Statement (.vrc6aAudio9 a v) := fun h =>
  (⟨_, .tail _ (.head _), write_row h, rfl⟩ :
    ∃ r ∈ cpuWriteRows .vrc6a, r.accepts a v = true ∧ r.build a v = Instr.vrc6aAudio9 a v)

theorem RowListed.vrc6aAudioA0 (a : Word) (v : Byte) : RowListed.Statement (.vrc6aAudioA0 a v) := fun h =>
  (⟨_, .tail _ (.tail _ (.head _)), write_row h, rfl⟩ :
    ∃ r ∈ cpuWriteRows .vrc6a, r.accepts a v = true ∧ r.build a v = Instr.vrc6aAudioA0 a v)

theorem RowListed.vrc6aAudioA1 (a : Word) (v : Byte) : RowListed.Statement (.vrc6aAudioA1 a v) := fun h =>
  (⟨_, .tail _ (.tail _ (.tail _ (.head _))), write_row h, rfl⟩ :
    ∃ r ∈ cpuWriteRows .vrc6a, r.accepts a v = true ∧ r.build a v = Instr.vrc6aAudioA1 a v)

theorem RowListed.vrc6aAudioA2 (a : Word) (v : Byte) : RowListed.Statement (.vrc6aAudioA2 a v) := fun h =>
  (⟨_, .tail _ (.tail _ (.tail _ (.tail _ (.head _)))), write_row h, rfl⟩ :
    ∃ r ∈ cpuWriteRows .vrc6a, r.accepts a v = true ∧ r.build a v = Instr.vrc6aAudioA2 a v)

theorem RowListed.vrc6aAudioB0 (a : Word) (v : Byte) : RowListed.Statement (.vrc6aAudioB0 a v) := fun h =>
  (⟨_, .tail _ (.tail _ (.tail _ (.tail _ (.tail _ (.head _))))), write_row h, rfl⟩ :
    ∃ r ∈ cpuWriteRows .vrc6a, r.accepts a v = true ∧ r.build a v = Instr.vrc6aAudioB0 a v)

theorem RowListed.vrc6aAudioB1 (a : Word) (v : Byte) : RowListed.Statement (.vrc6aAudioB1 a v) := fun h =>
  (⟨_, .tail _ (.tail _ (.tail _ (.tail _ (.tail _ (.tail _ (.head _)))))), write_row h, rfl⟩ :
    ∃ r ∈ cpuWriteRows .vrc6a, r.accepts a v = true ∧ r.build a v = Instr.vrc6aAudioB1 a v)

theorem RowListed.vrc6aAudioB2 (a : Word) (v : Byte) : RowListed.Statement (.vrc6aAudioB2 a v) := fun h =>
  (⟨_, .tail _ (.tail _ (.tail _ (.tail _ (.tail _ (.tail _ (.tail _ (.head _))))))), write_row h, rfl⟩ :
    ∃ r ∈ cpuWriteRows .vrc6a, r.accepts a v = true ∧ r.build a v = Instr.vrc6aAudioB2 a v)

theorem RowListed.vrc6aCtrl (a : Word) (v : Byte) : RowListed.Statement (.vrc6aCtrl a v) := fun h =>
  (⟨_, .tail _ (.tail _ (.tail _ (.tail _ (.tail _ (.tail _ (.tail _ (.tail _ (.head _)))))))), write_row h, rfl⟩ :
    ∃ r ∈ cpuWriteRows .vrc6a, r.accepts a v = true ∧ r.build a v = Instr.vrc6aCtrl a v)

theorem RowListed.vrc6aPrg8 (a : Word) (v : Byte) : RowListed.Statement (.vrc6aPrg8 a v) := fun h =>
  (⟨_, .tail _ (.tail _ (.tail _ (.tail _ (.tail _ (.tail _ (.tail _ (.tail _ (.tail _ (.head _))))))))), write_row h, rfl⟩ :
    ∃ r ∈ cpuWriteRows .vrc6a, r.accepts a v = true ∧ r.build a v = Instr.vrc6aPrg8 a v)

theorem RowListed.vrc6aChrD (a : Word) (v : Byte) : RowListed.Statement (.vrc6aChrD a v) := fun h =>
  (⟨_, .tail _ (.tail _ (.tail _ (.tail _ (.tail _ (.tail _ (.tail _ (.tail _ (.tail _ (.tail _ (.head _)))))))))), write_row h, rfl⟩ :
    ∃ r ∈ cpuWriteRows .vrc6a, r.accepts a v = true ∧ r.build a v = Instr.vrc6aChrD a v)

theorem RowListed.vrc6aChrE (a : Word) (v : Byte) : RowListed.Statement (.vrc6aChrE a v) := fun h =>
  (⟨_, .tail _ (.tail _ (.tail _ (.tail _ (.tail _ (.tail _ (.tail _ (.tail _ (.tail _ (.tail _ (.tail _ (.head _))))))))))), write_row h, rfl⟩ :
    ∃ r ∈ cpuWriteRows .vrc6a, r.accepts a v = true ∧ r.build a v = Instr.vrc6aChrE a v)

theorem RowListed.vrc6aIrqLatch (a : Word) (v : Byte) : RowListed.Statement (.vrc6aIrqLatch a v) := fun h =>
  (⟨_, .tail _ (.tail _ (.tail _ (.tail _ (.tail _ (.tail _ (.tail _ (.tail _ (.tail _ (.tail _ (.tail _ (.tail _ (.head _)))))))))))), write_row h, rfl⟩ :
    ∃ r ∈ cpuWriteRows .vrc6a, r.accepts a v = true ∧ r.build a v = Instr.vrc6aIrqLatch a v)

theorem RowListed.vrc6aIrqControl (a : Word) (v : Byte) : RowListed.Statement (.vrc6aIrqControl a v) := fun h =>
  (⟨_, .tail _ (.tail _ (.tail _ (.tail _ (.tail _ (.tail _ (.tail _ (.tail _ (.tail _ (.tail _ (.tail _ (.tail _ (.tail _ (.head _))))))))))))), write_row h, rfl⟩ :
    ∃ r ∈ cpuWriteRows .vrc6a, r.accepts a v = true ∧ r.build a v = Instr.vrc6aIrqControl a v)

theorem RowListed.vrc6aIrqAck (a : Word) (v : Byte) : RowListed.Statement (.vrc6aIrqAck a v) := fun h =>
  (⟨_, .tail _ (.tail _ (.tail _ (.tail _ (.tail _ (.tail _ (.tail _ (.tail _ (.tail _ (.tail _ (.tail _ (.tail _ (.tail _ (.tail _ (.head _)))))))))))))), write_row h, rfl⟩ :
    ∃ r ∈ cpuWriteRows .vrc6a, r.accepts a v = true ∧ r.build a v = Instr.vrc6aIrqAck a v)

theorem RowListed.vrc6aIgnoredA003 (a : Word) (v : Byte) : RowListed.Statement (.vrc6aIgnoredA003 a v) := fun h =>
  (⟨_, .tail _ (.tail _ (.tail _ (.tail _ (.tail _ (.tail _ (.tail _ (.tail _ (.tail _ (.tail _ (.tail _ (.tail _ (.tail _ (.tail _ (.tail _ (.head _))))))))))))))), write_row h, rfl⟩ :
    ∃ r ∈ cpuWriteRows .vrc6a, r.accepts a v = true ∧ r.build a v = Instr.vrc6aIgnoredA003 a v)

theorem RowListed.vrc6aIgnoredF003 (a : Word) (v : Byte) : RowListed.Statement (.vrc6aIgnoredF003 a v) := fun h =>
  (⟨_, .tail _ (.tail _ (.tail _ (.tail _ (.tail _ (.tail _ (.tail _ (.tail _ (.tail _ (.tail _ (.tail _ (.tail _ (.tail _ (.tail _ (.tail _ (.tail _ (.head _)))))))))))))))), write_row h, rfl⟩ :
    ∃ r ∈ cpuWriteRows .vrc6a, r.accepts a v = true ∧ r.build a v = Instr.vrc6aIgnoredF003 a v)

theorem RowListed.vrc6aPrgRead (a : Word) : RowListed.Statement (.vrc6aPrgRead a) := fun h =>
  (⟨_, .head _, read_row h, rfl⟩ :
    ∃ r ∈ cpuReadRows .vrc6a, r.accepts a 0 = true ∧ r.build a 0 = Instr.vrc6aPrgRead a)

theorem RowListed.vrc6aPrgramRead (a : Word) : RowListed.Statement (.vrc6aPrgramRead a) := fun h =>
  (⟨_, .tail _ (.head _), read_row h, rfl⟩ :
    ∃ r ∈ cpuReadRows .vrc6a, r.accepts a 0 = true ∧ r.build a 0 = Instr.vrc6aPrgramRead a)

theorem RowListed.vrc6aPrgramWrite (a : Word) (v : Byte) : RowListed.Statement (.vrc6aPrgramWrite a v) := fun h =>
  (⟨_, .tail _ (.tail _ (.tail _ (.tail _ (.tail _ (.tail _ (.tail _ (.tail _ (.tail _ (.tail _ (.tail _ (.tail _ (.tail _ (.tail _ (.tail _ (.tail _ (.tail _ (.head _))))))))))))))))), write_row h, rfl⟩ :
    ∃ r ∈ cpuWriteRows .vrc6a, r.accepts a v = true ∧ r.build a v = Instr.vrc6aPrgramWrite a v)

theorem RowListed.vrc6aChrRead (a : ChrAddr) : RowListed.Statement (.vrc6aChrRead a) :=
  fun _ => congrArg (Instr.vrc6aChrRead ·) (chr_addr a)

theorem RowListed.vrc6aChrWrite (a : ChrAddr) (v : Byte) : RowListed.Statement (.vrc6aChrWrite a v) :=
  fun _ => congrArg (Instr.vrc6aChrWrite · v) (chr_addr a)

theorem RowListed.vrc7Prg0 (a : Word) (v : Byte) : RowListed.Statement (.vrc7Prg0 a v) := fun h =>
  (⟨_, .head _, write_row h, rfl⟩ :
    ∃ r ∈ cpuWriteRows .vrc7, r.accepts a v = true ∧ r.build a v = Instr.vrc7Prg0 a v)

theorem RowListed.vrc7Prg1 (a : Word) (v : Byte) : RowListed.Statement (.vrc7Prg1 a v) := fun h =>
  (⟨_, .tail _ (.head _), write_row h, rfl⟩ :
    ∃ r ∈ cpuWriteRows .vrc7, r.accepts a v = true ∧ r.build a v = Instr.vrc7Prg1 a v)

theorem RowListed.vrc7Prg1A4 (a : Word) (v : Byte) : RowListed.Statement (.vrc7Prg1A4 a v) := fun h =>
  (⟨_, .tail _ (.tail _ (.head _)), write_row h, rfl⟩ :
    ∃ r ∈ cpuWriteRows .vrc7, r.accepts a v = true ∧ r.build a v = Instr.vrc7Prg1A4 a v)

theorem RowListed.vrc7Prg2 (a : Word) (v : Byte) : RowListed.Statement (.vrc7Prg2 a v) := fun h =>
  (⟨_, .tail _ (.tail _ (.tail _ (.head _))), write_row h, rfl⟩ :
    ∃ r ∈ cpuWriteRows .vrc7, r.accepts a v = true ∧ r.build a v = Instr.vrc7Prg2 a v)

theorem RowListed.vrc7IgnoredWrite (a : Word) (v : Byte) : RowListed.Statement (.vrc7IgnoredWrite a v) := fun h =>
  (⟨_, .tail _ (.tail _ (.tail _ (.tail _ (.head _)))), write_row h, rfl⟩ :
    ∃ r ∈ cpuWriteRows .vrc7, r.accepts a v = true ∧ r.build a v = Instr.vrc7IgnoredWrite a v)

theorem RowListed.vrc7AudioIndex (a : Word) (v : Byte) : RowListed.Statement (.vrc7AudioIndex a v) := fun h =>
  (⟨_, .tail _ (.tail _ (.tail _ (.tail _ (.tail _ (.head _))))), write_row h, rfl⟩ :
    ∃ r ∈ cpuWriteRows .vrc7, r.accepts a v = true ∧ r.build a v = Instr.vrc7AudioIndex a v)

theorem RowListed.vrc7AudioData (a : Word) (v : Byte) : RowListed.Statement (.vrc7AudioData a v) := fun h =>
  (⟨_, .tail _ (.tail _ (.tail _ (.tail _ (.tail _ (.tail _ (.head _)))))), write_row h, rfl⟩ :
    ∃ r ∈ cpuWriteRows .vrc7, r.accepts a v = true ∧ r.build a v = Instr.vrc7AudioData a v)

theorem RowListed.vrc7ChrALo (a : Word) (v : Byte) : RowListed.Statement (.vrc7ChrALo a v) := fun h =>
  (⟨_, .tail _ (.tail _ (.tail _ (.tail _ (.tail _ (.tail _ (.tail _ (.head _))))))), write_row h, rfl⟩ :
    ∃ r ∈ cpuWriteRows .vrc7, r.accepts a v = true ∧ r.build a v = Instr.vrc7ChrALo a v)

theorem RowListed.vrc7ChrAHi (a : Word) (v : Byte) : RowListed.Statement (.vrc7ChrAHi a v) := fun h =>
  (⟨_, .tail _ (.tail _ (.tail _ (.tail _ (.tail _ (.tail _ (.tail _ (.tail _ (.head _)))))))), write_row h, rfl⟩ :
    ∃ r ∈ cpuWriteRows .vrc7, r.accepts a v = true ∧ r.build a v = Instr.vrc7ChrAHi a v)

theorem RowListed.vrc7ChrAHiA4 (a : Word) (v : Byte) : RowListed.Statement (.vrc7ChrAHiA4 a v) := fun h =>
  (⟨_, .tail _ (.tail _ (.tail _ (.tail _ (.tail _ (.tail _ (.tail _ (.tail _ (.tail _ (.head _))))))))), write_row h, rfl⟩ :
    ∃ r ∈ cpuWriteRows .vrc7, r.accepts a v = true ∧ r.build a v = Instr.vrc7ChrAHiA4 a v)

theorem RowListed.vrc7ChrBLo (a : Word) (v : Byte) : RowListed.Statement (.vrc7ChrBLo a v) := fun h =>
  (⟨_, .tail _ (.tail _ (.tail _ (.tail _ (.tail _ (.tail _ (.tail _ (.tail _ (.tail _ (.tail _ (.head _)))))))))), write_row h, rfl⟩ :
    ∃ r ∈ cpuWriteRows .vrc7, r.accepts a v = true ∧ r.build a v = Instr.vrc7ChrBLo a v)

theorem RowListed.vrc7ChrBHi (a : Word) (v : Byte) : RowListed.Statement (.vrc7ChrBHi a v) := fun h =>
  (⟨_, .tail _ (.tail _ (.tail _ (.tail _ (.tail _ (.tail _ (.tail _ (.tail _ (.tail _ (.tail _ (.tail _ (.head _))))))))))), write_row h, rfl⟩ :
    ∃ r ∈ cpuWriteRows .vrc7, r.accepts a v = true ∧ r.build a v = Instr.vrc7ChrBHi a v)

theorem RowListed.vrc7ChrBHiA4 (a : Word) (v : Byte) : RowListed.Statement (.vrc7ChrBHiA4 a v) := fun h =>
  (⟨_, .tail _ (.tail _ (.tail _ (.tail _ (.tail _ (.tail _ (.tail _ (.tail _ (.tail _ (.tail _ (.tail _ (.tail _ (.head _)))))))))))), write_row h, rfl⟩ :
    ∃ r ∈ cpuWriteRows .vrc7, r.accepts a v = true ∧ r.build a v = Instr.vrc7ChrBHiA4 a v)

theorem RowListed.vrc7ChrCLo (a : Word) (v : Byte) : RowListed.Statement (.vrc7ChrCLo a v) := fun h =>
  (⟨_, .tail _ (.tail _ (.tail _ (.tail _ (.tail _ (.tail _ (.tail _ (.tail _ (.tail _ (.tail _ (.tail _ (.tail _ (.tail _ (.head _))))))))))))), write_row h, rfl⟩ :
    ∃ r ∈ cpuWriteRows .vrc7, r.accepts a v = true ∧ r.build a v = Instr.vrc7ChrCLo a v)

theorem RowListed.vrc7ChrCHi (a : Word) (v : Byte) : RowListed.Statement (.vrc7ChrCHi a v) := fun h =>
  (⟨_, .tail _ (.tail _ (.tail _ (.tail _ (.tail _ (.tail _ (.tail _ (.tail _ (.tail _ (.tail _ (.tail _ (.tail _ (.tail _ (.tail _ (.head _)))))))))))))), write_row h, rfl⟩ :
    ∃ r ∈ cpuWriteRows .vrc7, r.accepts a v = true ∧ r.build a v = Instr.vrc7ChrCHi a v)

theorem RowListed.vrc7ChrCHiA4 (a : Word) (v : Byte) : RowListed.Statement (.vrc7ChrCHiA4 a v) := fun h =>
  (⟨_, .tail _ (.tail _ (.tail _ (.tail _ (.tail _ (.tail _ (.tail _ (.tail _ (.tail _ (.tail _ (.tail _ (.tail _ (.tail _ (.tail _ (.tail _ (.head _))))))))))))))), write_row h, rfl⟩ :
    ∃ r ∈ cpuWriteRows .vrc7, r.accepts a v = true ∧ r.build a v = Instr.vrc7ChrCHiA4 a v)

theorem RowListed.vrc7ChrDLo (a : Word) (v : Byte) : RowListed.Statement (.vrc7ChrDLo a v) := fun h =>
  (⟨_, .tail _ (.tail _ (.tail _ (.tail _ (.tail _ (.tail _ (.tail _ (.tail _ (.tail _ (.tail _ (.tail _ (.tail _ (.tail _ (.tail _ (.tail _ (.tail _ (.head _)))))))))))))))), write_row h, rfl⟩ :
    ∃ r ∈ cpuWriteRows .vrc7, r.accepts a v = true ∧ r.build a v = Instr.vrc7ChrDLo a v)

theorem RowListed.vrc7ChrDHi (a : Word) (v : Byte) : RowListed.Statement (.vrc7ChrDHi a v) := fun h =>
  (⟨_, .tail _ (.tail _ (.tail _ (.tail _ (.tail _ (.tail _ (.tail _ (.tail _ (.tail _ (.tail _ (.tail _ (.tail _ (.tail _ (.tail _ (.tail _ (.tail _ (.tail _ (.head _))))))))))))))))), write_row h, rfl⟩ :
    ∃ r ∈ cpuWriteRows .vrc7, r.accepts a v = true ∧ r.build a v = Instr.vrc7ChrDHi a v)

theorem RowListed.vrc7ChrDHiA4 (a : Word) (v : Byte) : RowListed.Statement (.vrc7ChrDHiA4 a v) := fun h =>
  (⟨_, .tail _ (.tail _ (.tail _ (.tail _ (.tail _ (.tail _ (.tail _ (.tail _ (.tail _ (.tail _ (.tail _ (.tail _ (.tail _ (.tail _ (.tail _ (.tail _ (.tail _ (.tail _ (.head _)))))))))))))))))), write_row h, rfl⟩ :
    ∃ r ∈ cpuWriteRows .vrc7, r.accepts a v = true ∧ r.build a v = Instr.vrc7ChrDHiA4 a v)

theorem RowListed.vrc7Ctrl (a : Word) (v : Byte) : RowListed.Statement (.vrc7Ctrl a v) := fun h =>
  (⟨_, .tail _ (.tail _ (.tail _ (.tail _ (.tail _ (.tail _ (.tail _ (.tail _ (.tail _ (.tail _ (.tail _ (.tail _ (.tail _ (.tail _ (.tail _ (.tail _ (.tail _ (.tail _ (.tail _ (.head _))))))))))))))))))), write_row h, rfl⟩ :
    ∃ r ∈ cpuWriteRows .vrc7, r.accepts a v = true ∧ r.build a v = Instr.vrc7Ctrl a v)

theorem RowListed.vrc7IrqLatch (a : Word) (v : Byte) : RowListed.Statement (.vrc7IrqLatch a v) := fun h =>
  (⟨_, .tail _ (.tail _ (.tail _ (.tail _ (.tail _ (.tail _ (.tail _ (.tail _ (.tail _ (.tail _ (.tail _ (.tail _ (.tail _ (.tail _ (.tail _ (.tail _ (.tail _ (.tail _ (.tail _ (.tail _ (.head _)))))))))))))))))))), write_row h, rfl⟩ :
    ∃ r ∈ cpuWriteRows .vrc7, r.accepts a v = true ∧ r.build a v = Instr.vrc7IrqLatch a v)

theorem RowListed.vrc7IrqLatchA4 (a : Word) (v : Byte) : RowListed.Statement (.vrc7IrqLatchA4 a v) := fun h =>
  (⟨_, .tail _ (.tail _ (.tail _ (.tail _ (.tail _ (.tail _ (.tail _ (.tail _ (.tail _ (.tail _ (.tail _ (.tail _ (.tail _ (.tail _ (.tail _ (.tail _ (.tail _ (.tail _ (.tail _ (.tail _ (.tail _ (.head _))))))))))))))))))))), write_row h, rfl⟩ :
    ∃ r ∈ cpuWriteRows .vrc7, r.accepts a v = true ∧ r.build a v = Instr.vrc7IrqLatchA4 a v)

theorem RowListed.vrc7IrqControl (a : Word) (v : Byte) : RowListed.Statement (.vrc7IrqControl a v) := fun h =>
  (⟨_, .tail _ (.tail _ (.tail _ (.tail _ (.tail _ (.tail _ (.tail _ (.tail _ (.tail _ (.tail _ (.tail _ (.tail _ (.tail _ (.tail _ (.tail _ (.tail _ (.tail _ (.tail _ (.tail _ (.tail _ (.tail _ (.tail _ (.head _)))))))))))))))))))))), write_row h, rfl⟩ :
    ∃ r ∈ cpuWriteRows .vrc7, r.accepts a v = true ∧ r.build a v = Instr.vrc7IrqControl a v)

theorem RowListed.vrc7IrqAck (a : Word) (v : Byte) : RowListed.Statement (.vrc7IrqAck a v) := fun h =>
  (⟨_, .tail _ (.tail _ (.tail _ (.tail _ (.tail _ (.tail _ (.tail _ (.tail _ (.tail _ (.tail _ (.tail _ (.tail _ (.tail _ (.tail _ (.tail _ (.tail _ (.tail _ (.tail _ (.tail _ (.tail _ (.tail _ (.tail _ (.tail _ (.head _))))))))))))))))))))))), write_row h, rfl⟩ :
    ∃ r ∈ cpuWriteRows .vrc7, r.accepts a v = true ∧ r.build a v = Instr.vrc7IrqAck a v)

theorem RowListed.vrc7IrqAckA4 (a : Word) (v : Byte) : RowListed.Statement (.vrc7IrqAckA4 a v) := fun h =>
  (⟨_, .tail _ (.tail _ (.tail _ (.tail _ (.tail _ (.tail _ (.tail _ (.tail _ (.tail _ (.tail _ (.tail _ (.tail _ (.tail _ (.tail _ (.tail _ (.tail _ (.tail _ (.tail _ (.tail _ (.tail _ (.tail _ (.tail _ (.tail _ (.tail _ (.head _)))))))))))))))))))))))), write_row h, rfl⟩ :
    ∃ r ∈ cpuWriteRows .vrc7, r.accepts a v = true ∧ r.build a v = Instr.vrc7IrqAckA4 a v)

theorem RowListed.vrc7PrgRead (a : Word) : RowListed.Statement (.vrc7PrgRead a) := fun h =>
  (⟨_, .head _, read_row h, rfl⟩ :
    ∃ r ∈ cpuReadRows .vrc7, r.accepts a 0 = true ∧ r.build a 0 = Instr.vrc7PrgRead a)

theorem RowListed.vrc7PrgramRead (a : Word) : RowListed.Statement (.vrc7PrgramRead a) := fun h =>
  (⟨_, .tail _ (.head _), read_row h, rfl⟩ :
    ∃ r ∈ cpuReadRows .vrc7, r.accepts a 0 = true ∧ r.build a 0 = Instr.vrc7PrgramRead a)

theorem RowListed.vrc7PrgramWrite (a : Word) (v : Byte) : RowListed.Statement (.vrc7PrgramWrite a v) := fun h =>
  (⟨_, .tail _ (.tail _ (.tail _ (.tail _ (.tail _ (.tail _ (.tail _ (.tail _ (.tail _ (.tail _ (.tail _ (.tail _ (.tail _ (.tail _ (.tail _ (.tail _ (.tail _ (.tail _ (.tail _ (.tail _ (.tail _ (.tail _ (.tail _ (.tail _ (.tail _ (.head _))))))))))))))))))))))))), write_row h, rfl⟩ :
    ∃ r ∈ cpuWriteRows .vrc7, r.accepts a v = true ∧ r.build a v = Instr.vrc7PrgramWrite a v)

theorem RowListed.vrc7ChrRead (a : ChrAddr) : RowListed.Statement (.vrc7ChrRead a) :=
  fun _ => congrArg (Instr.vrc7ChrRead ·) (chr_addr a)

theorem RowListed.vrc7ChrWrite (a : ChrAddr) (v : Byte) : RowListed.Statement (.vrc7ChrWrite a v) :=
  fun _ => congrArg (Instr.vrc7ChrWrite · v) (chr_addr a)

theorem RowListed.fdsRamRead6 (a : Word) : RowListed.Statement (.fdsRamRead6 a) := fun h =>
  (⟨_, .head _, read_row h, rfl⟩ :
    ∃ r ∈ cpuReadRows .fds, r.accepts a 0 = true ∧ r.build a 0 = Instr.fdsRamRead6 a)

theorem RowListed.fdsRamRead8 (a : Word) : RowListed.Statement (.fdsRamRead8 a) := fun h =>
  (⟨_, .tail _ (.head _), read_row h, rfl⟩ :
    ∃ r ∈ cpuReadRows .fds, r.accepts a 0 = true ∧ r.build a 0 = Instr.fdsRamRead8 a)

theorem RowListed.fdsRamReadC (a : Word) : RowListed.Statement (.fdsRamReadC a) := fun h =>
  (⟨_, .tail _ (.tail _ (.head _)), read_row h, rfl⟩ :
    ∃ r ∈ cpuReadRows .fds, r.accepts a 0 = true ∧ r.build a 0 = Instr.fdsRamReadC a)

theorem RowListed.fdsRamWrite6 (a : Word) (v : Byte) : RowListed.Statement (.fdsRamWrite6 a v) := fun h =>
  (⟨_, .head _, write_row h, rfl⟩ :
    ∃ r ∈ cpuWriteRows .fds, r.accepts a v = true ∧ r.build a v = Instr.fdsRamWrite6 a v)

theorem RowListed.fdsRamWrite8 (a : Word) (v : Byte) : RowListed.Statement (.fdsRamWrite8 a v) := fun h =>
  (⟨_, .tail _ (.head _), write_row h, rfl⟩ :
    ∃ r ∈ cpuWriteRows .fds, r.accepts a v = true ∧ r.build a v = Instr.fdsRamWrite8 a v)

theorem RowListed.fdsRamWriteC (a : Word) (v : Byte) : RowListed.Statement (.fdsRamWriteC a v) := fun h =>
  (⟨_, .tail _ (.tail _ (.head _)), write_row h, rfl⟩ :
    ∃ r ∈ cpuWriteRows .fds, r.accepts a v = true ∧ r.build a v = Instr.fdsRamWriteC a v)

theorem RowListed.fdsBiosRead (a : Word) : RowListed.Statement (.fdsBiosRead a) := fun h =>
  (⟨_, .tail _ (.tail _ (.tail _ (.head _))), read_row h, rfl⟩ :
    ∃ r ∈ cpuReadRows .fds, r.accepts a 0 = true ∧ r.build a 0 = Instr.fdsBiosRead a)

theorem RowListed.fdsBiosWrite (a : Word) (v : Byte) : RowListed.Statement (.fdsBiosWrite a v) := fun h =>
  (⟨_, .tail _ (.tail _ (.tail _ (.head _))), write_row h, rfl⟩ :
    ∃ r ∈ cpuWriteRows .fds, r.accepts a v = true ∧ r.build a v = Instr.fdsBiosWrite a v)

theorem RowListed.fdsTimerReloadLo (a : Word) (v : Byte) : RowListed.Statement (.fdsTimerReloadLo a v) := fun h =>
  (⟨_, .tail _ (.tail _ (.tail _ (.tail _ (.head _)))), write_row h, rfl⟩ :
    ∃ r ∈ cpuWriteRows .fds, r.accepts a v = true ∧ r.build a v = Instr.fdsTimerReloadLo a v)

theorem RowListed.fdsTimerReloadHi (a : Word) (v : Byte) : RowListed.Statement (.fdsTimerReloadHi a v) := fun h =>
  (⟨_, .tail _ (.tail _ (.tail _ (.tail _ (.tail _ (.head _))))), write_row h, rfl⟩ :
    ∃ r ∈ cpuWriteRows .fds, r.accepts a v = true ∧ r.build a v = Instr.fdsTimerReloadHi a v)

theorem RowListed.fdsTimerCtrl (a : Word) (v : Byte) : RowListed.Statement (.fdsTimerCtrl a v) := fun h =>
  (⟨_, .tail _ (.tail _ (.tail _ (.tail _ (.tail _ (.tail _ (.head _)))))), write_row h, rfl⟩ :
    ∃ r ∈ cpuWriteRows .fds, r.accepts a v = true ∧ r.build a v = Instr.fdsTimerCtrl a v)

theorem RowListed.fdsMasterIo (a : Word) (v : Byte) : RowListed.Statement (.fdsMasterIo a v) := fun h =>
  (⟨_, .tail _ (.tail _ (.tail _ (.tail _ (.tail _ (.tail _ (.tail _ (.head _))))))), write_row h, rfl⟩ :
    ∃ r ∈ cpuWriteRows .fds, r.accepts a v = true ∧ r.build a v = Instr.fdsMasterIo a v)

theorem RowListed.fdsWriteData (a : Word) (v : Byte) : RowListed.Statement (.fdsWriteData a v) := fun h =>
  (⟨_, .tail _ (.tail _ (.tail _ (.tail _ (.tail _ (.tail _ (.tail _ (.tail _ (.head _)))))))), write_row h, rfl⟩ :
    ∃ r ∈ cpuWriteRows .fds, r.accepts a v = true ∧ r.build a v = Instr.fdsWriteData a v)

theorem RowListed.fdsControl (a : Word) (v : Byte) : RowListed.Statement (.fdsControl a v) := fun h =>
  (⟨_, .tail _ (.tail _ (.tail _ (.tail _ (.tail _ (.tail _ (.tail _ (.tail _ (.tail _ (.head _))))))))), write_row h, rfl⟩ :
    ∃ r ∈ cpuWriteRows .fds, r.accepts a v = true ∧ r.build a v = Instr.fdsControl a v)

theorem RowListed.fdsExtOut (a : Word) (v : Byte) : RowListed.Statement (.fdsExtOut a v) := fun h =>
  (⟨_, .tail _ (.tail _ (.tail _ (.tail _ (.tail _ (.tail _ (.tail _ (.tail _ (.tail _ (.tail _ (.head _)))))))))), write_row h, rfl⟩ :
    ∃ r ∈ cpuWriteRows .fds, r.accepts a v = true ∧ r.build a v = Instr.fdsExtOut a v)

theorem RowListed.fdsDiskStatus (a : Word) : RowListed.Statement (.fdsDiskStatus a) := fun h =>
  (⟨_, .tail _ (.tail _ (.tail _ (.tail _ (.head _)))), read_row h, rfl⟩ :
    ∃ r ∈ cpuReadRows .fds, r.accepts a 0 = true ∧ r.build a 0 = Instr.fdsDiskStatus a)

theorem RowListed.fdsReadData (a : Word) : RowListed.Statement (.fdsReadData a) := fun h =>
  (⟨_, .tail _ (.tail _ (.tail _ (.tail _ (.tail _ (.head _))))), read_row h, rfl⟩ :
    ∃ r ∈ cpuReadRows .fds, r.accepts a 0 = true ∧ r.build a 0 = Instr.fdsReadData a)

theorem RowListed.fdsDriveStatus (a : Word) : RowListed.Statement (.fdsDriveStatus a) := fun h =>
  (⟨_, .tail _ (.tail _ (.tail _ (.tail _ (.tail _ (.tail _ (.head _)))))), read_row h, rfl⟩ :
    ∃ r ∈ cpuReadRows .fds, r.accepts a 0 = true ∧ r.build a 0 = Instr.fdsDriveStatus a)

theorem RowListed.fdsExtIn (a : Word) : RowListed.Statement (.fdsExtIn a) := fun h =>
  (⟨_, .tail _ (.tail _ (.tail _ (.tail _ (.tail _ (.tail _ (.tail _ (.head _))))))), read_row h, rfl⟩ :
    ∃ r ∈ cpuReadRows .fds, r.accepts a 0 = true ∧ r.build a 0 = Instr.fdsExtIn a)

theorem RowListed.fdsWaveWrite (a : Word) (v : Byte) : RowListed.Statement (.fdsWaveWrite a v) := fun h =>
  (⟨_, .tail _ (.tail _ (.tail _ (.tail _ (.tail _ (.tail _ (.tail _ (.tail _ (.tail _ (.tail _ (.tail _ (.head _))))))))))), write_row h, rfl⟩ :
    ∃ r ∈ cpuWriteRows .fds, r.accepts a v = true ∧ r.build a v = Instr.fdsWaveWrite a v)

theorem RowListed.fdsWaveRead (a : Word) : RowListed.Statement (.fdsWaveRead a) := fun h =>
  (⟨_, .tail _ (.tail _ (.tail _ (.tail _ (.tail _ (.tail _ (.tail _ (.tail _ (.head _)))))))), read_row h, rfl⟩ :
    ∃ r ∈ cpuReadRows .fds, r.accepts a 0 = true ∧ r.build a 0 = Instr.fdsWaveRead a)

theorem RowListed.fdsAudioWrite (a : Word) (v : Byte) : RowListed.Statement (.fdsAudioWrite a v) := fun h =>
  (⟨_, .tail _ (.tail _ (.tail _ (.tail _ (.tail _ (.tail _ (.tail _ (.tail _ (.tail _ (.tail _ (.tail _ (.tail _ (.head _)))))))))))), write_row h, rfl⟩ :
    ∃ r ∈ cpuWriteRows .fds, r.accepts a v = true ∧ r.build a v = Instr.fdsAudioWrite a v)

theorem RowListed.fdsAudioWriteHi (a : Word) (v : Byte) : RowListed.Statement (.fdsAudioWriteHi a v) := fun h =>
  (⟨_, .tail _ (.tail _ (.tail _ (.tail _ (.tail _ (.tail _ (.tail _ (.tail _ (.tail _ (.tail _ (.tail _ (.tail _ (.tail _ (.head _))))))))))))), write_row h, rfl⟩ :
    ∃ r ∈ cpuWriteRows .fds, r.accepts a v = true ∧ r.build a v = Instr.fdsAudioWriteHi a v)

theorem RowListed.fdsAudioWriteTop (a : Word) (v : Byte) : RowListed.Statement (.fdsAudioWriteTop a v) := fun h =>
  (⟨_, .tail _ (.tail _ (.tail _ (.tail _ (.tail _ (.tail _ (.tail _ (.tail _ (.tail _ (.tail _ (.tail _ (.tail _ (.tail _ (.tail _ (.head _)))))))))))))), write_row h, rfl⟩ :
    ∃ r ∈ cpuWriteRows .fds, r.accepts a v = true ∧ r.build a v = Instr.fdsAudioWriteTop a v)

theorem RowListed.fdsChrRead (a : ChrAddr) : RowListed.Statement (.fdsChrRead a) :=
  fun _ => congrArg (Instr.fdsChrRead ·) (chr_addr a)

theorem RowListed.fdsChrWrite (a : ChrAddr) (v : Byte) : RowListed.Statement (.fdsChrWrite a v) :=
  fun _ => congrArg (Instr.fdsChrWrite · v) (chr_addr a)

end Sys2Proof.Laws
end

