-- ==== Sys2Proof/Tests/Slice0.lean ====
section
/-!
SUPPORT. Tests of the model. The expected results come from the spec: the patterns of
spec/opcode_table.json, the examples of the rules and the vectors of spec/95_test_vectors.md.
Every obligation with hypotheses has a witness here, one for each of its clauses.
-/

namespace Sys2Proof.Tests

open Sys2Proof Sys2Proof.Machine Sys2Proof.Config

/-- A transaction of the kind is read as the instruction. -/
def readsAs (k : Kind) (p : Bus × Instr) : Bool :=
  match decode k p.1 with
  | .ok i => i == p.2
  | .error _ => false

/-! ## Decoding: every row, at the address whose free bits are all 1 -/

theorem test_decode_nrom : ([
    (.cpuRead 0xFFFF, .nromPrgRead 0xFFFF), (.cpuWrite 0xFFFF 0xA5, .nromPrgWrite 0xFFFF 0xA5),
    (.cpuRead 0x7FFF, .nromPrgramRead 0x7FFF),
    (.cpuWrite 0x7FFF 0xA5, .nromPrgramWrite 0x7FFF 0xA5), (.chrRead 0x3FFF, .nromChrRead 0x1FFF),
    (.chrWrite 0x3FFF 0xA5, .nromChrWrite 0x1FFF 0xA5)] :
    List (Bus × Instr)).all (readsAs .nrom) = true := by decide

theorem test_decode_uxrom : ([
    (.cpuWrite 0xFFFF 0xA5, .uxromBankWrite 0xFFFF 0xA5),
    (.cpuRead 0xBFFF, .uxromPrgReadLow 0xBFFF), (.cpuRead 0xFFFF, .uxromPrgReadHigh 0xFFFF),
    (.cpuRead 0x7FFF, .uxromPrgramRead 0x7FFF),
    (.cpuWrite 0x7FFF 0xA5, .uxromPrgramWrite 0x7FFF 0xA5),
    (.chrRead 0x3FFF, .uxromChrRead 0x1FFF), (.chrWrite 0x3FFF 0xA5, .uxromChrWrite 0x1FFF 0xA5)] :
    List (Bus × Instr)).all (readsAs .uxrom) = true := by decide

theorem test_decode_camerica : ([
    (.cpuWrite 0xFFFF 0xA5, .camericaBankWrite 0xFFFF 0xA5),
    (.cpuRead 0xBFFF, .camericaPrgReadLow 0xBFFF), (.cpuRead 0xFFFF, .camericaPrgReadHigh 0xFFFF),
    (.cpuRead 0x7FFF, .camericaPrgramRead 0x7FFF),
    (.cpuWrite 0x7FFF 0xA5, .camericaPrgramWrite 0x7FFF 0xA5),
    (.chrRead 0x3FFF, .camericaChrRead 0x1FFF),
    (.chrWrite 0x3FFF 0xA5, .camericaChrWrite 0x1FFF 0xA5)] :
    List (Bus × Instr)).all (readsAs .camerica) = true := by decide

theorem test_decode_cnrom : ([
    (.cpuWrite 0xFFFF 0xA5, .cnromChrBankWrite 0xFFFF 0xA5),
    (.cpuRead 0xFFFF, .cnromPrgRead 0xFFFF), (.chrRead 0x3FFF, .cnromChrRead 0x1FFF),
    (.chrWrite 0x3FFF 0xA5, .cnromChrWrite 0x1FFF 0xA5),
    (.cpuRead 0x7FFF, .cnromPrgramRead 0x7FFF),
    (.cpuWrite 0x7FFF 0xA5, .cnromPrgramWrite 0x7FFF 0xA5)] :
    List (Bus × Instr)).all (readsAs .cnrom) = true := by decide

theorem test_decode_colorDreams : ([
    (.cpuWrite 0xFFFF 0xA5, .colorDreamsBankWrite 0xFFFF 0xA5),
    (.cpuRead 0xFFFF, .colorDreamsPrgRead 0xFFFF), (.chrRead 0x3FFF, .colorDreamsChrRead 0x1FFF),
    (.chrWrite 0x3FFF 0xA5, .colorDreamsChrWrite 0x1FFF 0xA5),
    (.cpuRead 0x7FFF, .colorDreamsPrgramRead 0x7FFF),
    (.cpuWrite 0x7FFF 0xA5, .colorDreamsPrgramWrite 0x7FFF 0xA5)] :
    List (Bus × Instr)).all (readsAs .colorDreams) = true := by decide

theorem test_decode_axrom : ([
    (.cpuWrite 0xFFFF 0xA5, .axromBankWrite 0xFFFF 0xA5), (.cpuRead 0xFFFF, .axromPrgRead 0xFFFF),
    (.cpuRead 0x7FFF, .axromPrgramRead 0x7FFF),
    (.cpuWrite 0x7FFF 0xA5, .axromPrgramWrite 0x7FFF 0xA5),
    (.chrRead 0x3FFF, .axromChrRead 0x1FFF), (.chrWrite 0x3FFF 0xA5, .axromChrWrite 0x1FFF 0xA5)] :
    List (Bus × Instr)).all (readsAs .axrom) = true := by decide

theorem test_decode_mmc1 : ([
    (.cpuWrite 0xFFFF 0xFF, .mmc1ResetWrite 0xFFFF 0xFF),
    (.cpuWrite 0x9FFF 0x7F, .mmc1WriteControl 0x9FFF 0x7F),
    (.cpuWrite 0xBFFF 0x7F, .mmc1WriteChr0 0xBFFF 0x7F),
    (.cpuWrite 0xDFFF 0x7F, .mmc1WriteChr1 0xDFFF 0x7F),
    (.cpuWrite 0xFFFF 0x7F, .mmc1WritePrg 0xFFFF 0x7F), (.cpuRead 0xBFFF, .mmc1PrgReadLow 0xBFFF),
    (.cpuRead 0xFFFF, .mmc1PrgReadHigh 0xFFFF), (.chrRead 0x3FFF, .mmc1ChrRead 0x1FFF),
    (.chrWrite 0x3FFF 0xA5, .mmc1ChrWrite 0x1FFF 0xA5), (.cpuRead 0x7FFF, .mmc1PrgramRead 0x7FFF),
    (.cpuWrite 0x7FFF 0xA5, .mmc1PrgramWrite 0x7FFF 0xA5)] :
    List (Bus × Instr)).all (readsAs .mmc1) = true := by decide

theorem test_decode_mmc3_1 : ([
    (.cpuWrite 0x9FFE 0xA5, .mmc3BankSelect 0x9FFE 0xA5),
    (.cpuWrite 0x9FFF 0xA5, .mmc3BankData 0x9FFF 0xA5),
    (.cpuWrite 0xBFFE 0xA5, .mmc3Mirroring 0xBFFE 0xA5),
    (.cpuWrite 0xBFFF 0xA5, .mmc3PrgRamProtect 0xBFFF 0xA5),
    (.cpuWrite 0xDFFE 0xA5, .mmc3IrqLatch 0xDFFE 0xA5),
    (.cpuWrite 0xDFFF 0xA5, .mmc3IrqReload 0xDFFF 0xA5),
    (.cpuWrite 0xFFFE 0xA5, .mmc3IrqDisable 0xFFFE 0xA5),
    (.cpuWrite 0xFFFF 0xA5, .mmc3IrqEnable 0xFFFF 0xA5), (.cpuRead 0xFFFF, .mmc3PrgRead 0xFFFF),
    (.cpuRead 0x7FFF, .mmc3PrgramRead 0x7FFF),
    (.cpuWrite 0x7FFF 0xA5, .mmc3PrgramWrite 0x7FFF 0xA5), (.chrRead 0x3FFF, .mmc3ChrRead 0x1FFF)] :
    List (Bus × Instr)).all (readsAs .mmc3) = true := by decide

theorem test_decode_mmc3_2 : ([
    (.chrWrite 0x3FFF 0xA5, .mmc3ChrWrite 0x1FFF 0xA5)] :
    List (Bus × Instr)).all (readsAs .mmc3) = true := by decide

theorem test_decode_mmc2 : ([
    (.cpuWrite 0xAFFF 0xA5, .mmc2PrgBank 0xAFFF 0xA5),
    (.cpuWrite 0xBFFF 0xA5, .mmc2ChrFd0 0xBFFF 0xA5),
    (.cpuWrite 0xCFFF 0xA5, .mmc2ChrFe0 0xCFFF 0xA5),
    (.cpuWrite 0xDFFF 0xA5, .mmc2ChrFd1 0xDFFF 0xA5),
    (.cpuWrite 0xEFFF 0xA5, .mmc2ChrFe1 0xEFFF 0xA5),
    (.cpuWrite 0xFFFF 0xA5, .mmc2Mirroring 0xFFFF 0xA5),
    (.cpuWrite 0x9FFF 0xA5, .mmc2IgnoredWrite 0x9FFF 0xA5),
    (.cpuRead 0xFFFF, .mmc2PrgRead 0xFFFF), (.chrRead 0x3FFF, .mmc2ChrRead 0x1FFF),
    (.chrWrite 0x3FFF 0xA5, .mmc2ChrWrite 0x1FFF 0xA5), (.cpuRead 0x7FFF, .mmc2PrgramRead 0x7FFF),
    (.cpuWrite 0x7FFF 0xA5, .mmc2PrgramWrite 0x7FFF 0xA5)] :
    List (Bus × Instr)).all (readsAs .mmc2) = true := by decide

theorem test_decode_mmc4 : ([
    (.cpuWrite 0xAFFF 0xA5, .mmc4PrgBank 0xAFFF 0xA5),
    (.cpuWrite 0xBFFF 0xA5, .mmc4ChrFd0 0xBFFF 0xA5),
    (.cpuWrite 0xCFFF 0xA5, .mmc4ChrFe0 0xCFFF 0xA5),
    (.cpuWrite 0xDFFF 0xA5, .mmc4ChrFd1 0xDFFF 0xA5),
    (.cpuWrite 0xEFFF 0xA5, .mmc4ChrFe1 0xEFFF 0xA5),
    (.cpuWrite 0xFFFF 0xA5, .mmc4Mirroring 0xFFFF 0xA5),
    (.cpuWrite 0x9FFF 0xA5, .mmc4IgnoredWrite 0x9FFF 0xA5),
    (.cpuRead 0xFFFF, .mmc4PrgRead 0xFFFF), (.chrRead 0x3FFF, .mmc4ChrRead 0x1FFF),
    (.chrWrite 0x3FFF 0xA5, .mmc4ChrWrite 0x1FFF 0xA5), (.cpuRead 0x7FFF, .mmc4PrgramRead 0x7FFF),
    (.cpuWrite 0x7FFF 0xA5, .mmc4PrgramWrite 0x7FFF 0xA5)] :
    List (Bus × Instr)).all (readsAs .mmc4) = true := by decide

theorem test_decode_mmc5_1 : ([
    (.cpuWrite 0x500F 0xA5, .mmc5AudioWrite 0x500F 0xA5),
    (.cpuWrite 0x5013 0xA5, .mmc5AudioWriteHi 0x5013 0xA5),
    (.cpuWrite 0x5015 0xA5, .mmc5AudioWriteTop 0x5015 0xA5),
    (.cpuWrite 0x5100 0xA5, .mmc5PrgMode 0x5100 0xA5),
    (.cpuWrite 0x5101 0xA5, .mmc5ChrMode 0x5101 0xA5),
    (.cpuWrite 0x5102 0xA5, .mmc5RamProtect1 0x5102 0xA5),
    (.cpuWrite 0x5103 0xA5, .mmc5RamProtect2 0x5103 0xA5),
    (.cpuWrite 0x5104 0xA5, .mmc5ExramMode 0x5104 0xA5),
    (.cpuWrite 0x5105 0xA5, .mmc5NtMap 0x5105 0xA5),
    (.cpuWrite 0x5106 0xA5, .mmc5FillTile 0x5106 0xA5),
    (.cpuWrite 0x5107 0xA5, .mmc5FillAttr 0x5107 0xA5),
    (.cpuWrite 0x5113 0xA5, .mmc5PrgRamBank 0x5113 0xA5)] :
    List (Bus × Instr)).all (readsAs .mmc5) = true := by decide

theorem test_decode_mmc5_2 : ([
    (.cpuWrite 0x5130 0xA5, .mmc5ChrUpper 0x5130 0xA5),
    (.cpuWrite 0x5203 0xA5, .mmc5IrqTarget 0x5203 0xA5),
    (.cpuWrite 0x5204 0xA5, .mmc5IrqEnable 0x5204 0xA5),
    (.cpuWrite 0x5205 0xA5, .mmc5MulA 0x5205 0xA5),
    (.cpuWrite 0x5206 0xA5, .mmc5MulB 0x5206 0xA5),
    (.cpuWrite 0x5117 0xA5, .mmc5PrgBank 0x5117 0xA5),
    (.cpuWrite 0x5127 0xA5, .mmc5ChrBank 0x5127 0xA5),
    (.cpuWrite 0x512B 0xA5, .mmc5ChrBankB 0x512B 0xA5), (.cpuRead 0x5204, .mmc5IrqStatus 0x5204),
    (.cpuRead 0x5205, .mmc5MulLo 0x5205), (.cpuRead 0x5206, .mmc5MulHi 0x5206),
    (.cpuRead 0x5FFF, .mmc5ExramRead 0x5FFF)] :
    List (Bus × Instr)).all (readsAs .mmc5) = true := by decide

theorem test_decode_mmc5_3 : ([
    (.cpuWrite 0x5FFF 0xA5, .mmc5ExramWrite 0x5FFF 0xA5),
    (.cpuRead 0x7FFF, .mmc5PrgramRead 0x7FFF), (.cpuRead 0xFFFF, .mmc5PrgRead 0xFFFF),
    (.cpuWrite 0x7FFF 0xA5, .mmc5PrgramWrite 0x7FFF 0xA5),
    (.cpuWrite 0xFFFF 0xA5, .mmc5PrgWrite 0xFFFF 0xA5), (.chrRead 0x3FFF, .mmc5ChrRead 0x1FFF),
    (.chrWrite 0x3FFF 0xA5, .mmc5ChrWrite 0x1FFF 0xA5)] :
    List (Bus × Instr)).all (readsAs .mmc5) = true := by decide

theorem test_decode_vrc6_1 : ([
    (.cpuWrite 0x8FFF 0xA5, .vrc6Prg16 0x8FFF 0xA5),
    (.cpuWrite 0x9FFF 0xA5, .vrc6Audio9 0x9FFF 0xA5),
    (.cpuWrite 0xAFFC 0xA5, .vrc6AudioA0 0xAFFC 0xA5),
    (.cpuWrite 0xAFFD 0xA5, .vrc6AudioA1 0xAFFD 0xA5),
    (.cpuWrite 0xAFFE 0xA5, .vrc6AudioA2 0xAFFE 0xA5),
    (.cpuWrite 0xBFFC 0xA5, .vrc6AudioB0 0xBFFC 0xA5),
    (.cpuWrite 0xBFFD 0xA5, .vrc6AudioB1 0xBFFD 0xA5),
    (.cpuWrite 0xBFFE 0xA5, .vrc6AudioB2 0xBFFE 0xA5),
    (.cpuWrite 0xBFFF 0xA5, .vrc6Ctrl 0xBFFF 0xA5),
    (.cpuWrite 0xCFFF 0xA5, .vrc6Prg8 0xCFFF 0xA5),
    (.cpuWrite 0xDFFF 0xA5, .vrc6ChrD 0xDFFF 0xA5), (.cpuWrite 0xEFFF 0xA5, .vrc6ChrE 0xEFFF 0xA5)] :
    List (Bus × Instr)).all (readsAs .vrc6) = true := by decide

theorem test_decode_vrc6_2 : ([
    (.cpuWrite 0xFFFC 0xA5, .vrc6IrqLatch 0xFFFC 0xA5),
    (.cpuWrite 0xFFFD 0xA5, .vrc6IrqControl 0xFFFD 0xA5),
    (.cpuWrite 0xFFFE 0xA5, .vrc6IrqAck 0xFFFE 0xA5),
    (.cpuWrite 0xAFFF 0xA5, .vrc6IgnoredA003 0xAFFF 0xA5),
    (.cpuWrite 0xFFFF 0xA5, .vrc6IgnoredF003 0xFFFF 0xA5), (.cpuRead 0xFFFF, .vrc6PrgRead 0xFFFF),
    (.cpuRead 0x7FFF, .vrc6PrgramRead 0x7FFF),
    (.cpuWrite 0x7FFF 0xA5, .vrc6PrgramWrite 0x7FFF 0xA5), (.chrRead 0x3FFF, .vrc6ChrRead 0x1FFF),
    (.chrWrite 0x3FFF 0xA5, .vrc6ChrWrite 0x1FFF 0xA5)] :
    List (Bus × Instr)).all (readsAs .vrc6) = true := by decide

theorem test_decode_vrc6a_1 : ([
    (.cpuWrite 0x8FFF 0xA5, .vrc6aPrg16 0x8FFF 0xA5),
    (.cpuWrite 0x9FFF 0xA5, .vrc6aAudio9 0x9FFF 0xA5),
    (.cpuWrite 0xAFFC 0xA5, .vrc6aAudioA0 0xAFFC 0xA5),
    (.cpuWrite 0xAFFE 0xA5, .vrc6aAudioA1 0xAFFE 0xA5),
    (.cpuWrite 0xAFFD 0xA5, .vrc6aAudioA2 0xAFFD 0xA5),
    (.cpuWrite 0xBFFC 0xA5, .vrc6aAudioB0 0xBFFC 0xA5),
    (.cpuWrite 0xBFFE 0xA5, .vrc6aAudioB1 0xBFFE 0xA5),
    (.cpuWrite 0xBFFD 0xA5, .vrc6aAudioB2 0xBFFD 0xA5),
    (.cpuWrite 0xBFFF 0xA5, .vrc6aCtrl 0xBFFF 0xA5),
    (.cpuWrite 0xCFFF 0xA5, .vrc6aPrg8 0xCFFF 0xA5),
    (.cpuWrite 0xDFFF 0xA5, .vrc6aChrD 0xDFFF 0xA5),
    (.cpuWrite 0xEFFF 0xA5, .vrc6aChrE 0xEFFF 0xA5)] :
    List (Bus × Instr)).all (readsAs .vrc6a) = true := by decide

theorem test_decode_vrc6a_2 : ([
    (.cpuWrite 0xFFFC 0xA5, .vrc6aIrqLatch 0xFFFC 0xA5),
    (.cpuWrite 0xFFFE 0xA5, .vrc6aIrqControl 0xFFFE 0xA5),
    (.cpuWrite 0xFFFD 0xA5, .vrc6aIrqAck 0xFFFD 0xA5),
    (.cpuWrite 0xAFFF 0xA5, .vrc6aIgnoredA003 0xAFFF 0xA5),
    (.cpuWrite 0xFFFF 0xA5, .vrc6aIgnoredF003 0xFFFF 0xA5),
    (.cpuRead 0xFFFF, .vrc6aPrgRead 0xFFFF), (.cpuRead 0x7FFF, .vrc6aPrgramRead 0x7FFF),
    (.cpuWrite 0x7FFF 0xA5, .vrc6aPrgramWrite 0x7FFF 0xA5),
    (.chrRead 0x3FFF, .vrc6aChrRead 0x1FFF), (.chrWrite 0x3FFF 0xA5, .vrc6aChrWrite 0x1FFF 0xA5)] :
    List (Bus × Instr)).all (readsAs .vrc6a) = true := by decide

theorem test_decode_vrc7_1 : ([
    (.cpuWrite 0x8FE7 0xA5, .vrc7Prg0 0x8FE7 0xA5),
    (.cpuWrite 0x8FFF 0xA5, .vrc7Prg1 0x8FFF 0xA5),
    (.cpuWrite 0x8FF7 0xA5, .vrc7Prg1A4 0x8FF7 0xA5),
    (.cpuWrite 0x9FE7 0xA5, .vrc7Prg2 0x9FE7 0xA5),
    (.cpuWrite 0x9FEF 0xA5, .vrc7IgnoredWrite 0x9FEF 0xA5),
    (.cpuWrite 0x9FDF 0xA5, .vrc7AudioIndex 0x9FDF 0xA5),
    (.cpuWrite 0x9FFF 0xA5, .vrc7AudioData 0x9FFF 0xA5),
    (.cpuWrite 0xAFE7 0xA5, .vrc7ChrALo 0xAFE7 0xA5),
    (.cpuWrite 0xAFFF 0xA5, .vrc7ChrAHi 0xAFFF 0xA5),
    (.cpuWrite 0xAFF7 0xA5, .vrc7ChrAHiA4 0xAFF7 0xA5),
    (.cpuWrite 0xBFE7 0xA5, .vrc7ChrBLo 0xBFE7 0xA5),
    (.cpuWrite 0xBFFF 0xA5, .vrc7ChrBHi 0xBFFF 0xA5)] :
    List (Bus × Instr)).all (readsAs .vrc7) = true := by decide

theorem test_decode_vrc7_2 : ([
    (.cpuWrite 0xBFF7 0xA5, .vrc7ChrBHiA4 0xBFF7 0xA5),
    (.cpuWrite 0xCFE7 0xA5, .vrc7ChrCLo 0xCFE7 0xA5),
    (.cpuWrite 0xCFFF 0xA5, .vrc7ChrCHi 0xCFFF 0xA5),
    (.cpuWrite 0xCFF7 0xA5, .vrc7ChrCHiA4 0xCFF7 0xA5),
    (.cpuWrite 0xDFE7 0xA5, .vrc7ChrDLo 0xDFE7 0xA5),
    (.cpuWrite 0xDFFF 0xA5, .vrc7ChrDHi 0xDFFF 0xA5),
    (.cpuWrite 0xDFF7 0xA5, .vrc7ChrDHiA4 0xDFF7 0xA5),
    (.cpuWrite 0xEFE7 0xA5, .vrc7Ctrl 0xEFE7 0xA5),
    (.cpuWrite 0xEFFF 0xA5, .vrc7IrqLatch 0xEFFF 0xA5),
    (.cpuWrite 0xEFF7 0xA5, .vrc7IrqLatchA4 0xEFF7 0xA5),
    (.cpuWrite 0xFFE7 0xA5, .vrc7IrqControl 0xFFE7 0xA5),
    (.cpuWrite 0xFFFF 0xA5, .vrc7IrqAck 0xFFFF 0xA5)] :
    List (Bus × Instr)).all (readsAs .vrc7) = true := by decide

theorem test_decode_vrc7_3 : ([
    (.cpuWrite 0xFFF7 0xA5, .vrc7IrqAckA4 0xFFF7 0xA5), (.cpuRead 0xFFFF, .vrc7PrgRead 0xFFFF),
    (.cpuRead 0x7FFF, .vrc7PrgramRead 0x7FFF),
    (.cpuWrite 0x7FFF 0xA5, .vrc7PrgramWrite 0x7FFF 0xA5), (.chrRead 0x3FFF, .vrc7ChrRead 0x1FFF),
    (.chrWrite 0x3FFF 0xA5, .vrc7ChrWrite 0x1FFF 0xA5)] :
    List (Bus × Instr)).all (readsAs .vrc7) = true := by decide

theorem test_decode_fds_1 : ([
    (.cpuRead 0x7FFF, .fdsRamRead6 0x7FFF), (.cpuRead 0xBFFF, .fdsRamRead8 0xBFFF),
    (.cpuRead 0xDFFF, .fdsRamReadC 0xDFFF), (.cpuWrite 0x7FFF 0xA5, .fdsRamWrite6 0x7FFF 0xA5),
    (.cpuWrite 0xBFFF 0xA5, .fdsRamWrite8 0xBFFF 0xA5),
    (.cpuWrite 0xDFFF 0xA5, .fdsRamWriteC 0xDFFF 0xA5), (.cpuRead 0xFFFF, .fdsBiosRead 0xFFFF),
    (.cpuWrite 0xFFFF 0xA5, .fdsBiosWrite 0xFFFF 0xA5),
    (.cpuWrite 0x4020 0xA5, .fdsTimerReloadLo 0x4020 0xA5),
    (.cpuWrite 0x4021 0xA5, .fdsTimerReloadHi 0x4021 0xA5),
    (.cpuWrite 0x4022 0xA5, .fdsTimerCtrl 0x4022 0xA5),
    (.cpuWrite 0x4023 0xA5, .fdsMasterIo 0x4023 0xA5)] :
    List (Bus × Instr)).all (readsAs .fds) = true := by decide

theorem test_decode_fds_2 : ([
    (.cpuWrite 0x4024 0xA5, .fdsWriteData 0x4024 0xA5),
    (.cpuWrite 0x4025 0xA5, .fdsControl 0x4025 0xA5),
    (.cpuWrite 0x4026 0xA5, .fdsExtOut 0x4026 0xA5), (.cpuRead 0x4030, .fdsDiskStatus 0x4030),
    (.cpuRead 0x4031, .fdsReadData 0x4031), (.cpuRead 0x4032, .fdsDriveStatus 0x4032),
    (.cpuRead 0x4033, .fdsExtIn 0x4033), (.cpuWrite 0x407F 0xA5, .fdsWaveWrite 0x407F 0xA5),
    (.cpuRead 0x407F, .fdsWaveRead 0x407F), (.cpuWrite 0x4087 0xA5, .fdsAudioWrite 0x4087 0xA5),
    (.cpuWrite 0x4089 0xA5, .fdsAudioWriteHi 0x4089 0xA5),
    (.cpuWrite 0x408A 0xA5, .fdsAudioWriteTop 0x408A 0xA5)] :
    List (Bus × Instr)).all (readsAs .fds) = true := by decide

theorem test_decode_fds_3 : ([
    (.chrRead 0x3FFF, .fdsChrRead 0x1FFF), (.chrWrite 0x3FFF 0xA5, .fdsChrWrite 0x1FFF 0xA5)] :
    List (Bus × Instr)).all (readsAs .fds) = true := by decide

/-! ## WellFormed: for every pattern a term it refuses, one fixed bit flipped -/

theorem test_ill_formed_nrom : ([
    .nromPrgRead 0x0000, .nromPrgWrite 0x0000 0xA5, .nromPrgramRead 0x4000,
    .nromPrgramWrite 0x4000 0xA5] :
    List Instr).any Instr.wellFormed = false := by decide

theorem test_ill_formed_uxrom : ([
    .uxromBankWrite 0x0000 0xA5, .uxromPrgReadLow 0xC000, .uxromPrgReadHigh 0x8000,
    .uxromPrgramRead 0x4000, .uxromPrgramWrite 0x4000 0xA5] :
    List Instr).any Instr.wellFormed = false := by decide

theorem test_ill_formed_camerica : ([
    .camericaBankWrite 0x0000 0xA5, .camericaPrgReadLow 0xC000, .camericaPrgReadHigh 0x8000,
    .camericaPrgramRead 0x4000, .camericaPrgramWrite 0x4000 0xA5] :
    List Instr).any Instr.wellFormed = false := by decide

theorem test_ill_formed_cnrom : ([
    .cnromChrBankWrite 0x0000 0xA5, .cnromPrgRead 0x0000, .cnromPrgramRead 0x4000,
    .cnromPrgramWrite 0x4000 0xA5] :
    List Instr).any Instr.wellFormed = false := by decide

theorem test_ill_formed_colorDreams : ([
    .colorDreamsBankWrite 0x0000 0xA5, .colorDreamsPrgRead 0x0000, .colorDreamsPrgramRead 0x4000,
    .colorDreamsPrgramWrite 0x4000 0xA5] :
    List Instr).any Instr.wellFormed = false := by decide

theorem test_ill_formed_axrom : ([
    .axromBankWrite 0x0000 0xA5, .axromPrgRead 0x0000, .axromPrgramRead 0x4000,
    .axromPrgramWrite 0x4000 0xA5] :
    List Instr).any Instr.wellFormed = false := by decide

theorem test_ill_formed_mmc1 : ([
    .mmc1ResetWrite 0x0000 0xFF, .mmc1ResetWrite 0xFFFF 0x7F, .mmc1WriteControl 0xA000 0x7F,
    .mmc1WriteControl 0x9FFF 0xFF, .mmc1WriteChr0 0x8000 0x7F, .mmc1WriteChr0 0xBFFF 0xFF,
    .mmc1WriteChr1 0xE000 0x7F, .mmc1WriteChr1 0xDFFF 0xFF, .mmc1WritePrg 0xC000 0x7F,
    .mmc1WritePrg 0xFFFF 0xFF, .mmc1PrgReadLow 0xC000, .mmc1PrgReadHigh 0x8000,
    .mmc1PrgramRead 0x4000, .mmc1PrgramWrite 0x4000 0xA5] :
    List Instr).any Instr.wellFormed = false := by decide

theorem test_ill_formed_mmc3 : ([
    .mmc3BankSelect 0x8001 0xA5, .mmc3BankData 0x8000 0xA5, .mmc3Mirroring 0xA001 0xA5,
    .mmc3PrgRamProtect 0xA000 0xA5, .mmc3IrqLatch 0xC001 0xA5, .mmc3IrqReload 0xC000 0xA5,
    .mmc3IrqDisable 0xE001 0xA5, .mmc3IrqEnable 0xE000 0xA5, .mmc3PrgRead 0x0000,
    .mmc3PrgramRead 0x4000, .mmc3PrgramWrite 0x4000 0xA5] :
    List Instr).any Instr.wellFormed = false := by decide

theorem test_ill_formed_mmc2 : ([
    .mmc2PrgBank 0xB000 0xA5, .mmc2ChrFd0 0xA000 0xA5, .mmc2ChrFe0 0xD000 0xA5,
    .mmc2ChrFd1 0xC000 0xA5, .mmc2ChrFe1 0xF000 0xA5, .mmc2Mirroring 0xE000 0xA5,
    .mmc2IgnoredWrite 0xA000 0xA5, .mmc2PrgRead 0x0000, .mmc2PrgramRead 0x4000,
    .mmc2PrgramWrite 0x4000 0xA5] :
    List Instr).any Instr.wellFormed = false := by decide

theorem test_ill_formed_mmc4 : ([
    .mmc4PrgBank 0xB000 0xA5, .mmc4ChrFd0 0xA000 0xA5, .mmc4ChrFe0 0xD000 0xA5,
    .mmc4ChrFd1 0xC000 0xA5, .mmc4ChrFe1 0xF000 0xA5, .mmc4Mirroring 0xE000 0xA5,
    .mmc4IgnoredWrite 0xA000 0xA5, .mmc4PrgRead 0x0000, .mmc4PrgramRead 0x4000,
    .mmc4PrgramWrite 0x4000 0xA5] :
    List Instr).any Instr.wellFormed = false := by decide

theorem test_ill_formed_mmc5_1 : ([
    .mmc5AudioWrite 0x5010 0xA5, .mmc5AudioWriteHi 0x5014 0xA5, .mmc5AudioWriteTop 0x5016 0xA5,
    .mmc5PrgMode 0x5101 0xA5, .mmc5ChrMode 0x5100 0xA5, .mmc5RamProtect1 0x5103 0xA5,
    .mmc5RamProtect2 0x5102 0xA5, .mmc5ExramMode 0x5105 0xA5, .mmc5NtMap 0x5104 0xA5,
    .mmc5FillTile 0x5107 0xA5, .mmc5FillAttr 0x5106 0xA5, .mmc5PrgRamBank 0x5112 0xA5,
    .mmc5ChrUpper 0x5131 0xA5, .mmc5IrqTarget 0x5202 0xA5, .mmc5IrqEnable 0x5205 0xA5,
    .mmc5MulA 0x5204 0xA5] :
    List Instr).any Instr.wellFormed = false := by decide

theorem test_ill_formed_mmc5_2 : ([
    .mmc5MulB 0x5207 0xA5, .mmc5PrgBank 0x5110 0xA5, .mmc5ChrBank 0x5128 0xA5,
    .mmc5ChrBankB 0x512C 0xA5, .mmc5IrqStatus 0x5205, .mmc5MulLo 0x5204, .mmc5MulHi 0x5207,
    .mmc5ExramRead 0x5800, .mmc5ExramWrite 0x5800 0xA5, .mmc5PrgramRead 0x4000,
    .mmc5PrgRead 0x0000, .mmc5PrgramWrite 0x4000 0xA5, .mmc5PrgWrite 0x0000 0xA5] :
    List Instr).any Instr.wellFormed = false := by decide

theorem test_ill_formed_vrc6_1 : ([
    .vrc6Prg16 0x9000 0xA5, .vrc6Audio9 0x8000 0xA5, .vrc6AudioA0 0xA001 0xA5,
    .vrc6AudioA1 0xA000 0xA5, .vrc6AudioA2 0xA003 0xA5, .vrc6AudioB0 0xB001 0xA5,
    .vrc6AudioB1 0xB000 0xA5, .vrc6AudioB2 0xB003 0xA5, .vrc6Ctrl 0xB002 0xA5,
    .vrc6Prg8 0xD000 0xA5, .vrc6ChrD 0xC000 0xA5, .vrc6ChrE 0xF000 0xA5,
    .vrc6IrqLatch 0xF001 0xA5, .vrc6IrqControl 0xF000 0xA5, .vrc6IrqAck 0xF003 0xA5,
    .vrc6IgnoredA003 0xA002 0xA5] :
    List Instr).any Instr.wellFormed = false := by decide

theorem test_ill_formed_vrc6_2 : ([
    .vrc6IgnoredF003 0xF002 0xA5, .vrc6PrgRead 0x0000, .vrc6PrgramRead 0x4000,
    .vrc6PrgramWrite 0x4000 0xA5] :
    List Instr).any Instr.wellFormed = false := by decide

theorem test_ill_formed_vrc6a_1 : ([
    .vrc6aPrg16 0x9000 0xA5, .vrc6aAudio9 0x8000 0xA5, .vrc6aAudioA0 0xA001 0xA5,
    .vrc6aAudioA1 0xA003 0xA5, .vrc6aAudioA2 0xA000 0xA5, .vrc6aAudioB0 0xB001 0xA5,
    .vrc6aAudioB1 0xB003 0xA5, .vrc6aAudioB2 0xB000 0xA5, .vrc6aCtrl 0xB002 0xA5,
    .vrc6aPrg8 0xD000 0xA5, .vrc6aChrD 0xC000 0xA5, .vrc6aChrE 0xF000 0xA5,
    .vrc6aIrqLatch 0xF001 0xA5, .vrc6aIrqControl 0xF003 0xA5, .vrc6aIrqAck 0xF000 0xA5,
    .vrc6aIgnoredA003 0xA002 0xA5] :
    List Instr).any Instr.wellFormed = false := by decide

theorem test_ill_formed_vrc6a_2 : ([
    .vrc6aIgnoredF003 0xF002 0xA5, .vrc6aPrgRead 0x0000, .vrc6aPrgramRead 0x4000,
    .vrc6aPrgramWrite 0x4000 0xA5] :
    List Instr).any Instr.wellFormed = false := by decide

theorem test_ill_formed_vrc7_1 : ([
    .vrc7Prg0 0x8008 0xA5, .vrc7Prg1 0x8000 0xA5, .vrc7Prg1A4 0x8018 0xA5, .vrc7Prg2 0x9008 0xA5,
    .vrc7IgnoredWrite 0x9000 0xA5, .vrc7AudioIndex 0x9000 0xA5, .vrc7AudioData 0x9020 0xA5,
    .vrc7ChrALo 0xA008 0xA5, .vrc7ChrAHi 0xA000 0xA5, .vrc7ChrAHiA4 0xA018 0xA5,
    .vrc7ChrBLo 0xB008 0xA5, .vrc7ChrBHi 0xB000 0xA5, .vrc7ChrBHiA4 0xB018 0xA5,
    .vrc7ChrCLo 0xC008 0xA5, .vrc7ChrCHi 0xC000 0xA5, .vrc7ChrCHiA4 0xC018 0xA5] :
    List Instr).any Instr.wellFormed = false := by decide

theorem test_ill_formed_vrc7_2 : ([
    .vrc7ChrDLo 0xD008 0xA5, .vrc7ChrDHi 0xD000 0xA5, .vrc7ChrDHiA4 0xD018 0xA5,
    .vrc7Ctrl 0xE008 0xA5, .vrc7IrqLatch 0xE000 0xA5, .vrc7IrqLatchA4 0xE018 0xA5,
    .vrc7IrqControl 0xF008 0xA5, .vrc7IrqAck 0xF000 0xA5, .vrc7IrqAckA4 0xF018 0xA5,
    .vrc7PrgRead 0x0000, .vrc7PrgramRead 0x4000, .vrc7PrgramWrite 0x4000 0xA5] :
    List Instr).any Instr.wellFormed = false := by decide

theorem test_ill_formed_fds_1 : ([
    .fdsRamRead6 0x4000, .fdsRamRead8 0xC000, .fdsRamReadC 0xE000, .fdsRamWrite6 0x4000 0xA5,
    .fdsRamWrite8 0xC000 0xA5, .fdsRamWriteC 0xE000 0xA5, .fdsBiosRead 0xC000,
    .fdsBiosWrite 0xC000 0xA5, .fdsTimerReloadLo 0x4021 0xA5, .fdsTimerReloadHi 0x4020 0xA5,
    .fdsTimerCtrl 0x4023 0xA5, .fdsMasterIo 0x4022 0xA5, .fdsWriteData 0x4025 0xA5,
    .fdsControl 0x4024 0xA5, .fdsExtOut 0x4027 0xA5, .fdsDiskStatus 0x4031] :
    List Instr).any Instr.wellFormed = false := by decide

theorem test_ill_formed_fds_2 : ([
    .fdsReadData 0x4030, .fdsDriveStatus 0x4033, .fdsExtIn 0x4032, .fdsWaveWrite 0x4000 0xA5,
    .fdsWaveRead 0x4000, .fdsAudioWrite 0x4088 0xA5, .fdsAudioWriteHi 0x408A 0xA5,
    .fdsAudioWriteTop 0x408B 0xA5] :
    List Instr).any Instr.wellFormed = false := by decide

/-! ## One transaction: the examples of the rules -/

/-- A memory of a size that holds one byte other than 0. -/
def oneByte (size o : Nat) (v : Byte) : Memory := { size := size, cells := [(o, v)] }

/-- A cartridge of a kind with a PRG-ROM, a CHR-ROM (size 0: CHR-RAM instead) and a PRG-RAM size. -/
def cart (k : Kind) (prg chr : Memory) (ram : Nat) : State :=
  { newCartridge k { leastMetadata k with prgRamSize := ram } State.reset with
    image := { kind := k, mapperNumber := mapperNumberOf k, prgRom := prg, chrRom := chr,
               hasBattery := false, mirrorDefault := .vertical, fdsTicks := 1 }
    chrRam := Memory.zeroed (if chr.size = 0 then 8192 else 0)
    mirrorMode := .vertical }

/-- A cartridge with a 256KB PRG-ROM that holds one byte, and an 8KB CHR-RAM. -/
def prgCart (k : Kind) (o : Nat) : State := cart k (oneByte 0x40000 o 0x5A) (Memory.zeroed 0) 0x2000

/-- A cartridge with a 256KB CHR-ROM that holds one byte. -/
def chrCart (k : Kind) (o : Nat) : State :=
  cart k (Memory.zeroed 0x8000) (oneByte 0x40000 o 0x5A) 0x2000

/-- What a result leaves. -/
def left {α : Type} (r : Result) (f : State → α) : Option α :=
  match r with
  | .next t => some (f t)
  | .fault _ => none
  | .refused _ => none

/-- The result answered the byte `v`. -/
def answers (r : Result) (v : Byte) : Bool := left r State.answer == some (.byte v)

/-- R510: with 16KB of PRG-ROM, `CR $C123` returns `PRG_ROM[0x0123]`. -/
theorem test_nrom_mirrors :
    answers (exec (.nromPrgRead 0xC123)
      (cart .nrom (oneByte 0x4000 0x123 7) (Memory.zeroed 0) 0)) 7 = true := by decide
/-- R223, W9: a write never reaches CHR-ROM. -/
theorem test_nrom_chr_rom_kept :
    left (exec (.nromChrWrite 0 0xAA) (chrCart .nrom 0)) (fun t => (t.image.chrRom.read 0, t.chrRam.size))
      = some (0x5A, 0) := by decide
/-- R220, R221: `CW $6000, $77` then the byte is there and `sram_dirty` is set. -/
theorem test_nrom_prg_ram :
    left (exec (.nromPrgramWrite 0x6000 0x77) (prgCart .nrom 0))
      (fun t => (answers (exec (.nromPrgramRead 0x6000) t) 0x77, t.sramDirty)) = some (true, true) := by
  decide
/-- R221: absent PRG-RAM drops the write and leaves `sram_dirty` clear; R213: it reads 0. -/
theorem test_absent_prg_ram :
    left (exec (.nromPrgramWrite 0x6000 0x77) (cart .nrom (Memory.zeroed 1) (Memory.zeroed 0) 0))
      (fun t => (answers (exec (.nromPrgramRead 0x6000) t) 0, t.sramDirty)) = some (true, false) := by
  decide
/-- R520, R521, W1: 128KB, bank 11 shows bank 3 at $8000. -/
theorem test_uxrom_bank_wraps :
    left (exec (.uxromBankWrite 0x8000 0x0B) (cart .uxrom (oneByte 0x20000 0xC000 6) (Memory.zeroed 0) 0))
      (fun t => answers (exec (.uxromPrgReadLow 0x8000) t) 6) = some true := by decide
/-- R522: 128KB, `CR $FFFC` returns `PRG_ROM[0x1FFFC]`. -/
theorem test_uxrom_last_bank :
    answers (exec (.uxromPrgReadHigh 0xFFFC)
      (cart .uxrom (oneByte 0x20000 0x1FFFC 9) (Memory.zeroed 0) 0)) 9 = true := by decide
/-- R526: `prg_bank = 1`, `CR $8010` returns `PRG_ROM[0x4010]`. -/
theorem test_camerica_low :
    left (exec (.camericaBankWrite 0x9000 0x01) (prgCart .camerica 0x4010))
      (fun t => answers (exec (.camericaPrgReadLow 0x8010) t) 0x5A) = some true := by decide
/-- R527: 256KB, `CR $C000` returns `PRG_ROM[0x3C000]`. -/
theorem test_camerica_high :
    answers (exec (.camericaPrgReadHigh 0xC000) (prgCart .camerica 0x3C000)) 0x5A = true := by decide
/-- R530: `CW $8000, $FE` stores 2; R532: bank 2 shows `CHR_ROM[0x4005]` at $0005. -/
theorem test_cnrom_chr_bank :
    left (exec (.cnromChrBankWrite 0x8000 0xFE) (chrCart .cnrom 0x4005))
      (fun t => (t.regs.cnrom.chrBank, answers (exec (.cnromChrRead 5) t) 0x5A))
      = some (2, true) := by decide
/-- R540: `CW $8000, $21` sets `prg_bank = 1`, `chr_bank = 2`; R541. -/
theorem test_color_dreams_bank :
    left (exec (.colorDreamsBankWrite 0x8000 0x21) (prgCart .colorDreams 0x8000))
      (fun t => (t.regs.colorDreams, answers (exec (.colorDreamsPrgRead 0x8000) t) 0x5A))
      = some (⟨1, 2⟩, true) := by decide
/-- R542: `chr_bank = 2`, `PR $0000` returns `CHR_ROM[0x4000]`. -/
theorem test_color_dreams_chr :
    answers (exec (.colorDreamsChrRead 0)
      { chrCart .colorDreams 0x4000 with regs.colorDreams.chrBank := 2 }) 0x5A = true := by decide
/-- R550: `CW $8000, $13` sets `prg_bank = 3`, `mirror_mode = SINGLE_B`. -/
theorem test_axrom_bank :
    left (exec (.axromBankWrite 0x8000 0x13) (prgCart .axrom 0))
      (fun t => (t.regs.axrom.prgBank, t.mirrorMode)) = some (3, .singleB) := by decide
/-- R551: `prg_bank = 7`, `CR $FFFC` returns `PRG_ROM[0x3FFFC]`. -/
theorem test_axrom_read :
    answers (exec (.axromPrgRead 0xFFFC)
      { prgCart .axrom 0x3FFFC with regs.axrom.prgBank := 7 }) 0x5A = true := by decide

/-- R601: after three serial writes, `CW $E000, $80` empties the port and sets PRG mode 3. -/
theorem test_mmc1_reset_write :
    left (exec (.mmc1ResetWrite 0xE000 0x80)
        { prgCart .mmc1 0 with regs.mmc1 := { Mmc1Regs.reset with shift := 7, shiftCount := 3, control := 0x13 } })
      (fun t => t.regs.mmc1) = some { Mmc1Regs.reset with control := 0x1F } := by decide
/-- R602: the fifth write of `MMC1W $8000, $0E` sets control 0x0E and VERTICAL mirroring. -/
theorem test_mmc1_control :
    left (exec (.mmc1WriteControl 0x8000 0x00)
        { prgCart .mmc1 0 with regs.mmc1.shift := 0x0E, regs.mmc1.shiftCount := 4, mirrorMode := .singleA })
      (fun t => (t.regs.mmc1, t.mirrorMode)) = some ({ Mmc1Regs.reset with control := 0x0E }, .vertical) := by
  decide
/-- R603, R605: the fifth write of `MMC1W $E000, $12` sets prg 0x12; the bank used is 2. -/
theorem test_mmc1_prg :
    left (exec (.mmc1WritePrg 0xE000 0x01)
        { prgCart .mmc1 0x8000 with regs.mmc1.shift := 0x02, regs.mmc1.shiftCount := 4 })
      (fun t => (t.regs.mmc1.prg, answers (exec (.mmc1PrgReadLow 0x8000) t) 0x5A))
      = some (0x12, true) := by decide
/-- R604: the fifth write of `MMC1W $C000, $05` sets chr1 to 5. -/
theorem test_mmc1_chr1 :
    left (exec (.mmc1WriteChr1 0xC000 0x00)
        { prgCart .mmc1 0 with regs.mmc1.shift := 0x05, regs.mmc1.shiftCount := 4 })
      (fun t => t.regs.mmc1) = some { Mmc1Regs.reset with chr1 := 5 } := by decide
/-- R603: a first write to CHR0 changes only the port. -/
theorem test_mmc1_chr0_first :
    left (exec (.mmc1WriteChr0 0xA000 0x7F) (prgCart .mmc1 0)) (fun t => t.regs.mmc1)
      = some { Mmc1Regs.reset with shift := 1, shiftCount := 1 } := by decide
/-- R611: 256KB after reset, `CR $FFFC` returns `PRG_ROM[0x3FFFC]`. -/
theorem test_mmc1_high :
    answers (exec (.mmc1PrgReadHigh 0xFFFC) (prgCart .mmc1 0x3FFFC)) 0x5A = true := by decide
/-- R612: `control[4] = 1`, `chr1 = 2`: `PR $1004` returns `CHR_ROM[0x2004]`. -/
theorem test_mmc1_chr_read :
    answers (exec (.mmc1ChrRead 0x1004)
      { chrCart .mmc1 0x2004 with regs.mmc1.control := 0x10, regs.mmc1.chr1 := 2 }) 0x5A = true := by decide
/-- R613: 8KB CHR-RAM in 4KB mode with `chr0 = 1` writes $0000 into `CHR_RAM[0x1000]`. -/
theorem test_mmc1_chr_write :
    left (exec (.mmc1ChrWrite 0 0x9C)
        { prgCart .mmc1 0 with regs.mmc1.control := 0x10, regs.mmc1.chr0 := 1 })
      (fun t => (t.chrRam.read 0x1000, t.chrRam.read 0)) = some (0x9C, 0) := by decide

/-- R702: with bank_select 0, `CW $8001, N` stores R0; R711: `PR $0000` shows `CHR_ROM[N * 0x800]`. -/
theorem test_mmc3_bank_data :
    left (exec (.mmc3BankData 0x8001 3) (chrCart .mmc3 0x1800))
      (fun t => answers (exec (.mmc3ChrRead 0) t) 0x5A) = some true := by decide
/-- R703, F14: four-screen ignores the mirroring write but keeps its bit. -/
theorem test_mmc3_four_screen :
    left (exec (.mmc3Mirroring 0xA000 1)
        { prgCart .mmc3 0 with image.mirrorDefault := .fourScreen, mirrorMode := .fourScreen })
      (fun t => (t.mirrorMode, t.regs.mmc3.mirroring)) = some (.fourScreen, 1) := by decide
/-- R704, R714: `CW $A001, $C0` then a write is refused and `sram_dirty` stays clear. -/
theorem test_mmc3_protected :
    left (exec (.mmc3PrgramWrite 0x6000 0x12) { prgCart .mmc3 0 with regs.mmc3.prgRamProtect := 0xC0 })
      (fun t => (t.prgRam.read 0, t.sramDirty)) = some (0, false) := by decide
/-- R710: `R[6] = 5`: `CR $8000` returns `PRG_ROM[0xA000]`. -/
theorem test_mmc3_prg_read :
    answers (exec (.mmc3PrgRead 0x8000)
      { prgCart .mmc3 0xA000 with regs.mmc3.r := #v[0, 0, 0, 0, 0, 0, 5, 0] }) 0x5A = true := by decide
/-- R710: `CR $C000` returns `PRG_ROM[0x3C000]` (bank 30). -/
theorem test_mmc3_penultimate :
    answers (exec (.mmc3PrgRead 0xC000) (prgCart .mmc3 0x3C000)) 0x5A = true := by decide
/-- R721: a rising edge with counter 1 and the IRQ enabled counts to 0, raises and triggers. -/
theorem test_mmc3_edge_fires :
    left (exec (.mmc3ChrRead 0x1000)
        { chrCart .mmc3 0 with regs.mmc3.irqCounter := 1, regs.mmc3.irqEnable := true })
      (fun t => (t.regs.mmc3.irqCounter, t.regs.mmc3.irqPending, t.triggers)) = some (0, true, 1) := by
  decide
/-- R715: a write to CHR-ROM stores nothing and still is a rising edge. -/
theorem test_mmc3_write_clocks :
    left (exec (.mmc3ChrWrite 0x1000 0) { chrCart .mmc3 0x1000 with regs.mmc3.irqLatch := 5 })
      (fun t => (t.regs.mmc3.irqCounter, t.regs.mmc3.lastA12, t.image.chrRom.read 0x1000))
      = some (5, 1, 0x5A) := by decide
/-- R707: `CW $E000` disables and acknowledges. -/
theorem test_mmc3_disable :
    left (exec (.mmc3IrqDisable 0xE000 0)
        { prgCart .mmc3 0 with regs.mmc3.irqEnable := true, regs.mmc3.irqPending := true })
      (fun t => (t.regs.mmc3.irqEnable, level t)) = some (false, false) := by decide

/-- R801: `CW $A000, $13` sets 3; R810: `CR $A000` shows bank 13 of 16 (`PRG_ROM[0x1A000]`). -/
theorem test_mmc2_prg :
    left (exec (.mmc2PrgBank 0xA000 0x13) (cart .mmc2 (oneByte 0x20000 0x1A000 8) (Memory.zeroed 0) 0))
      (fun t => (t.regs.mmc24.prgBank, answers (exec (.mmc2PrgRead 0xA000) t) 8)) = some (3, true) := by
  decide
/-- R812, R813: the trigger read is served by the old latch ($FE) and sets the latch to $FD. -/
theorem test_mmc2_trigger :
    left (exec (.mmc2ChrRead 0x0FD8)
        { chrCart .mmc2 0x5FD8 with regs.mmc24.chrFe0 := 5, regs.mmc24.chrFd0 := 4 })
      (fun t => (t.answer, t.regs.mmc24.latch0, t.regs.mmc24.latch1)) = some (.byte 0x5A, .fd, .fe) := by
  decide
/-- R814: `PW $0FD8, $00` leaves the latch. -/
theorem test_mmc2_write_keeps_latch :
    left (exec (.mmc2ChrWrite 0x0FD8 0) (prgCart .mmc2 0)) (fun t => t.regs.mmc24.latch0) = some .fe := by
  decide
/-- R811: `prg_bank = 2`: `CR $8000` returns `PRG_ROM[0x8000]`. -/
theorem test_mmc4_prg :
    answers (exec (.mmc4PrgRead 0x8000) { prgCart .mmc4 0x8000 with regs.mmc24.prgBank := 2 }) 0x5A
      = true := by decide
/-- R813: the half-1 trigger $1FE8 sets latch1 only. -/
theorem test_mmc4_trigger :
    left (exec (.mmc4ChrRead 0x1FEF) { chrCart .mmc4 0 with regs.mmc24.latch1 := .fd, regs.mmc24.latch0 := .fd })
      (fun t => (t.regs.mmc24.latch0, t.regs.mmc24.latch1)) = some (.fd, .fe) := by decide

/-- R918, R919: $12 times $34 is $03A8. -/
theorem test_mmc5_product :
    (answers (exec (.mmc5MulLo 0x5205) { prgCart .mmc5 0 with regs.mmc5.mulA := 0x12, regs.mmc5.mulB := 0x34 }) 0xA8
    && answers (exec (.mmc5MulHi 0x5206) { prgCart .mmc5 0 with regs.mmc5.mulA := 0x12, regs.mmc5.mulB := 0x34 }) 0x03)
      = true := by decide
/-- R932: 256KB after reset, `CR $FFFC` returns `PRG_ROM[0x3FFFC]`. -/
theorem test_mmc5_prg_read :
    answers (exec (.mmc5PrgRead 0xFFFC) (prgCart .mmc5 0x3FFFC)) 0x5A = true := by decide
/-- R934: mode 3, `prg_reg[1] = 0`, unlocked: `CW $8005, $11` stores `PRG_RAM[5]`. -/
theorem test_mmc5_prg_write :
    left (exec (.mmc5PrgWrite 0x8005 0x11)
        { prgCart .mmc5 0 with regs.mmc5.prgReg := #v[0, 0, 0, 0, 0], regs.mmc5.ramProtect1 := 2,
                               regs.mmc5.ramProtect2 := 1 })
      (fun t => (t.prgRam.read 5, t.sramDirty)) = some (0x11, true) := by decide
/-- R933: refused after reset. -/
theorem test_mmc5_locked :
    left (exec (.mmc5PrgramWrite 0x6000 0x5A) (prgCart .mmc5 0)) (fun t => (t.prgRam.read 0, t.sramDirty))
      = some (0, false) := by decide
/-- R941: `chr_mode = 3`, `chr_reg[2] = 5`: `PR $0801` returns `CHR_ROM[0x1401]`. -/
theorem test_mmc5_chr :
    answers (exec (.mmc5ChrRead 0x0801)
      { chrCart .mmc5 0x1401 with regs.mmc5.chrMode := 3,
                                  regs.mmc5.chrReg := #v[0, 0, 5, 0, 0, 0, 0, 0, 0, 0, 0, 0] }) 0x5A = true := by
  decide
/-- R921: `CW $5FFF, $01` writes `exram[1023]` and leaves `sram_dirty`. -/
theorem test_mmc5_exram :
    left (exec (.mmc5ExramWrite 0x5FFF 1) { prgCart .mmc5 0 with exram := Memory.zeroed 1024 })
      (fun t => (t.exram.read 1023, t.sramDirty)) = some (1, false) := by decide
/-- R906: `CW $5105, $44` sets VERTICAL; another value leaves the mode. -/
theorem test_mmc5_nt_map :
    (left (exec (.mmc5NtMap 0x5105 0x44) { prgCart .mmc5 0 with mirrorMode := .singleA }) (fun t => t.mirrorMode),
     left (exec (.mmc5NtMap 0x5105 0x45) { prgCart .mmc5 0 with mirrorMode := .singleA }) (fun t => t.mirrorMode))
      = (some .vertical, some .singleA) := by decide
/-- R922: `CW $5015, $03` sets `audio[21]`. -/
theorem test_mmc5_audio :
    left (exec (.mmc5AudioWriteTop 0x5015 3) (prgCart .mmc5 0)) (fun t => regAt t.regs.mmc5.audio 21)
      = some 3 := by decide
/-- R945: a scanline equal to the target raises; above 255 it never matches. -/
theorem test_mmc5_scanline :
    (left (notifyScanline 16 { prgCart .mmc5 0 with regs.mmc5.irqScanline := 16, regs.mmc5.irqEnable := true })
       (fun t => (level t, t.triggers)),
     left (notifyScanline 272 { prgCart .mmc5 0 with regs.mmc5.irqScanline := 16, regs.mmc5.irqEnable := true })
       (fun t => (level t, t.triggers)))
      = (some (true, 1), some (false, 0)) := by decide

/-- R1002: VRC6a `CW $9001, $7F` writes `audio[2]`. -/
theorem test_vrc6a_audio_swapped :
    left (exec (.vrc6aAudio9 0x9001 0x7F) (prgCart .vrc6a 0))
      (fun t => (regAt t.regs.vrc6.audio 2, regAt t.regs.vrc6.audio 1)) = some (0x7F, 0) := by decide
/-- R1005: VRC6 `CW $E003, $21` sets `chr[7]`; on VRC6a $D001 writes `chr[2]`. -/
theorem test_vrc6_chr :
    (left (exec (.vrc6ChrE 0xE003 0x21) (prgCart .vrc6 0)) (fun t => regAt t.regs.vrc6.chr 7),
     left (exec (.vrc6aChrD 0xD001 0x21) (prgCart .vrc6a 0)) (fun t => regAt t.regs.vrc6.chr 2))
      = (some 0x21, some 0x21) := by decide
/-- R1003: `CW $B003, $84` gives HORIZONTAL. -/
theorem test_vrc6_ctrl :
    left (exec (.vrc6Ctrl 0xB003 0x84) (prgCart .vrc6 0)) (fun t => t.mirrorMode) = some .horizontal := by
  decide
/-- R1007: with latch $FD, `CW $F001, $02` loads the counter and acknowledges. -/
theorem test_vrc6_control :
    left (exec (.vrc6IrqControl 0xF001 2) { prgCart .vrc6 0 with regs.vrc6.irq := ⟨0xFD, 0, 0, true⟩ })
      (fun t => t.regs.vrc6.irq) = some ⟨0xFD, 2, 0xFD, false⟩ := by decide
/-- R1008: with `irq_ctrl = 3`, `CW $F002` clears pending and keeps counting. -/
theorem test_vrc6_ack :
    left (exec (.vrc6IrqAck 0xF002 0) { prgCart .vrc6 0 with regs.vrc6.irq := ⟨0xFD, 3, 7, true⟩ })
      (fun t => t.regs.vrc6.irq) = some ⟨0xFD, 3, 7, false⟩ := by decide
/-- R1020: at $FF a scanline call reloads the latch and raises. -/
theorem test_vrc_fires :
    left (notifyScanline 2 { prgCart .vrc6 0 with regs.vrc6.irq := ⟨0xFD, 2, 0xFF, false⟩ })
      (fun t => (t.regs.vrc6.irq, t.triggers)) = some (⟨0xFD, 2, 0xFD, true⟩, 1) := by decide
/-- R1010: `prg16 = 5`: `CR $8000` returns `PRG_ROM[0x14000]`. -/
theorem test_vrc6_prg :
    answers (exec (.vrc6PrgRead 0x8000) { prgCart .vrc6 0x14000 with regs.vrc6.prg16 := 5 }) 0x5A = true := by
  decide
/-- R1011: after reset PRG-RAM reads 0; R1014: a refused write. -/
theorem test_vrc6_ram_off :
    left (exec (.vrc6PrgramWrite 0x6000 1) (prgCart .vrc6 0)) (fun t => (t.prgRam.read 0, t.sramDirty))
      = some (0, false) := by decide
/-- R1013: `chr[0] = 9`: `PW $0001, $44` writes `CHR_RAM[0x0401]`. -/
theorem test_vrc6_chr_write :
    left (exec (.vrc6ChrWrite 1 0x44) { prgCart .vrc6 0 with regs.vrc6.chr := #v[9, 0, 0, 0, 0, 0, 0, 0] })
      (fun t => t.chrRam.read 0x401) = some 0x44 := by decide

/-- R1052: `CW $8010, $43` sets `prg[1] = 3`. -/
theorem test_vrc7_prg1 :
    left (exec (.vrc7Prg1A4 0x8010 0x43) (prgCart .vrc7 0)) (fun t => t.regs.vrc7.prg) = some #v[0, 3, 0] := by
  decide
/-- R1055: `audio_index = $30`: `CW $9030, $1F` sets `audio_data[$30]`. -/
theorem test_vrc7_audio :
    left (exec (.vrc7AudioData 0x9030 0x1F) { prgCart .vrc7 0 with regs.vrc7.audioIndex := 0xF0 })
      (fun t => regAt t.regs.vrc7.audioData 0x30) = some 0x1F := by decide
/-- R1056: `CW $D010, $3F` sets `chr[7]`. -/
theorem test_vrc7_chr :
    left (exec (.vrc7ChrDHiA4 0xD010 0x3F) (prgCart .vrc7 0)) (fun t => regAt t.regs.vrc7.chr 7)
      = some 0x3F := by decide
/-- R1061: `prg[1] = 3`: `CR $A001` returns `PRG_ROM[0x6001]`. -/
theorem test_vrc7_prg_read :
    answers (exec (.vrc7PrgRead 0xA001) { prgCart .vrc7 0x6001 with regs.vrc7.prg := #v[0, 3, 0] }) 0x5A
      = true := by decide
/-- R1064: `chr[4] = 1`: `PW $1000, $55` writes `CHR_RAM[0x0400]`. -/
theorem test_vrc7_chr_write :
    left (exec (.vrc7ChrWrite 0x1000 0x55) { prgCart .vrc7 0 with regs.vrc7.chr := #v[0, 0, 0, 0, 1, 0, 0, 0] })
      (fun t => t.chrRam.read 0x400) = some 0x55 := by decide

/-- R1102, R1103: `CW $C000, $99` then `CR $C000`, at offset $6000. -/
theorem test_fds_ram :
    left (exec (.fdsRamWriteC 0xC000 0x99) (cart .fds (Memory.zeroed 0x2000) (Memory.zeroed 0) 0))
      (fun t => (t.prgRam.read 0x6000, answers (exec (.fdsRamReadC 0xC000) t) 0x99, t.sramDirty))
      = some (0x99, true, true) := by decide
/-- R1110, R1111: $34 then $12 give $1234. -/
theorem test_fds_reload :
    left (exec (.fdsTimerReloadHi 0x4021 0x12) { prgCart .fds 0 with regs.fds.timerReload := 0x0034 })
      (fun t => t.regs.fds.timerReload) = some 0x1234 := by decide
/-- R1112: with `master_io[0]` set, `CW $4022, $02` loads the counter. -/
theorem test_fds_timer_ctrl :
    left (exec (.fdsTimerCtrl 0x4022 2)
        { prgCart .fds 0 with regs.fds.timerReload := 5, regs.fds.masterIo := 1, regs.fds.irqPending := true })
      (fun t => (t.regs.fds.timerCounter, t.regs.fds.timerCtrl, t.regs.fds.irqPending))
      = some (5, 2, true) := by decide
/-- R1113: `CW $4023, $00` stops the timer and clears a pending IRQ. -/
theorem test_fds_master_io :
    left (exec (.fdsMasterIo 0x4023 0)
        { prgCart .fds 0 with regs.fds.timerCtrl := 3, regs.fds.masterIo := 1, regs.fds.irqPending := true })
      (fun t => (t.regs.fds.timerCtrl, t.regs.fds.masterIo, level t)) = some (1, 0, false) := by decide
/-- R1121, R1122: `CW $4041, $FF` then `CR $4041 = $3F`. -/
theorem test_fds_wave :
    left (exec (.fdsWaveWrite 0x4041 0xFF) (prgCart .fds 0))
      (fun t => answers (exec (.fdsWaveRead 0x4041) t) 0x3F) = some true := by decide
/-- R1130: the third tick of a one-shot timer of reload 2 fires and stops it. -/
theorem test_fds_timer :
    left (notifyScanline 0 { prgCart .fds 0 with regs.fds.timerCtrl := 2, regs.fds.masterIo := 1 })
      (fun t => (level t, t.triggers, t.regs.fds.timerCtrl)) = some (true, 1, 0) := by decide
/-- R1117 to R1120: the status and constant reads. -/
theorem test_fds_reads :
    ([exec (.fdsDiskStatus 0x4030), exec (.fdsReadData 0x4031), exec (.fdsDriveStatus 0x4032),
      exec (.fdsExtIn 0x4033)].map fun r => left (r (prgCart .fds 0)) State.answer)
      = [some (.byte 0x00), some (.byte 0x00), some (.byte 0x07), some (.byte 0x80)] := by decide

/-! ## The machine around the instructions -/

/-- R405, R222: below $4020 and on an unmapped address a read returns 0. -/
theorem test_unmapped_reads :
    (answers (serveBus (.cpuRead 0x401F) (prgCart .fds 0)) 0 &&
      answers (serveBus (.cpuRead 0x5104) (prgCart .mmc5 0)) 0) = true := by decide
/-- R403: mapper 2 with 128KB and no CHR-ROM gives UXROM with 8KB of CHR-RAM. -/
theorem test_construct :
    left (step { State.reset with
        requests := [.construct { leastMetadata .uxrom with prgRom := Memory.zeroed 0x20000 }] })
      (fun t => (t.answer, t.image.kind, t.chrRam, t.regs.uxrom.prgBank))
      = some (.cartridge, .uxrom, Memory.zeroed 8192, 0) := by decide
/-- R402, R1201: mapper 6 is unsupported; an empty image is reported first. -/
theorem test_construct_fails :
    ([(6, 1), (6, 0)].map fun p =>
      left (construct { leastMetadata .nrom with mapperNumber := BitVec.ofNat 16 p.1,
                                                 prgRom := Memory.zeroed p.2 } State.reset)
        (fun t => (t.answer, t.present)))
      = [some (.failed .unsupported, false), some (.failed .invalidImage, false)] := by decide
/-- R415, R1300, W8: reset clears the bank register and keeps PRG-RAM. -/
theorem test_reset :
    left (resetCartridge { prgCart .uxrom 0 with regs.uxrom.prgBank := 5, prgRam := oneByte 0x2000 0 0x77 })
      (fun t => (t.regs.uxrom.prgBank, t.prgRam.read 0)) = some (0, 0x77) := by decide
/-- The first step after reset runs a table word placed for it (log entry 12). -/
theorem test_placed_word :
    left (step (State.reset.withFetchWord 32 0x06038000)) (fun t => t.regs.uxrom.prgBank) = some 3 := by
  decide
/-- An untagged word of the table: MMC5.EXRAM_MODE, match $5104 (log entry 11). -/
theorem test_placed_untagged_word : decodeTableWord 16 0x5104 = some (.mmc5ExramMode 0x5104 0) := by decide

/-! ## Witnesses: for every obligation with hypotheses, states and operands that meet them -/

theorem witness_nrom : (0x8000 : Word) ≤ 0x8000 ∧ (0x8000 : Word) ≤ 0xFFFF ∧
    (cart .nrom (oneByte 0x4000 0 1) (Memory.zeroed 0) 0).image.prgRom.size = 0x4000 := by decide
theorem witness_uxrom : ((0x8000 : Word) ≤ 0x8000 ∧ (0x8000 : Word) ≤ 0xBFFF) ∧
    ((0x8000 : Word) ≤ 0xBFFF ∧ (0xBFFF : Word) ≤ 0xBFFF) ∧ (0x8000 : Word) ≤ 0xFFFF := by decide
theorem witness_cnrom_axrom : (0x8000 : Word) ≤ 0x8000 ∧ (0x8000 : Word) ≤ 0xFFFF := by decide
theorem witness_bank_arithmetic : (0x8000 : Nat) ≠ 0 ∧ (0x4000 : Nat) ≠ 0 ∧ (1 : Nat) < 0x8000 / 0x4000 := by
  decide
theorem witness_mmc1_five_writes :
    let s := prgCart .mmc1 0
    s.present = true ∧ s.image.kind = .mmc1 ∧ s.regs.mmc1.shift = 0 ∧ s.regs.mmc1.shiftCount = 0 ∧
    (0x8000 : Word) ≤ 0x8000 ∧ (0x8000 : Word) ≤ 0xA000 ∧ (0x8000 : Word) ≤ 0xC000 ∧
    (0x8000 : Word) ≤ 0xE000 ∧ (0x8000 : Word) ≤ 0xFFFF ∧
    (0x00 : Byte).getLsbD 7 = false ∧ (0x7F : Byte).getLsbD 7 = false := by decide
theorem witness_mmc3_bank_data : (0x8001 : Word) &&& 0xE001 = 0x8001 ∧ (0x9FFF : Word) &&& 0xE001 = 0x8001 := by
  decide
theorem witness_mmc3_interrupts :
    let s := { prgCart .mmc3 0 with regs.mmc3.irqEnable := true, regs.mmc3.irqReload := true,
                                    regs.mmc3.irqCounter := 9, regs.mmc3.irqLatch := 5 }
    s.present = true ∧ s.image.kind = .mmc3 ∧ s.regs.mmc3.irqEnable = true ∧
    s.regs.mmc3.irqPending = false ∧ (s.regs.mmc3.irqCounter = 0 ∨ s.regs.mmc3.irqReload = true) ∧
    5 ≤ s.regs.mmc3.irqLatch.toNat := by decide
/-- The clause of a rising edge: a read of $1000 after A12 was low. -/
theorem witness_mmc3_reload_edge :
    let s := { prgCart .mmc3 0 with regs.mmc3.irqReload := true, regs.mmc3.irqLatch := 5 }
    Instr.kind (.mmc3ChrRead 0x1000) = .mmc3 ∧ s.regs.mmc3.irqCounter = 0 ∧
    s.regs.mmc3.irqReload = true ∧ a12Edge s 0x1000 = true := by decide
/-- The clause without one: a latch write, and a read of $0FFF. -/
theorem witness_mmc3_reload_waits :
    let s := { prgCart .mmc3 0 with regs.mmc3.irqReload := true, regs.mmc3.irqLatch := 5 }
    Instr.kind (.mmc3IrqLatch 0xC000 2) = .mmc3 ∧
    (∀ a, (Instr.mmc3IrqLatch 0xC000 2 = .mmc3ChrRead a ∨
      ∃ v, Instr.mmc3IrqLatch 0xC000 2 = .mmc3ChrWrite a v) → a12Edge s a = false) ∧
    (∀ a, (Instr.mmc3ChrRead 0x0FFF = .mmc3ChrRead a ∨
      ∃ v, Instr.mmc3ChrRead 0x0FFF = .mmc3ChrWrite a v) → a12Edge s a = false) := by
  refine ⟨rfl, fun a h => ?_, fun a h => ?_⟩
  · rcases h with h | ⟨v, h⟩ <;> cases h
  · rcases h with h | ⟨v, h⟩
    · cases h; decide
    · cases h
theorem witness_mmc24_triggers :
    let s := prgCart .mmc2 0
    let u := prgCart .mmc4 0
    s.present = true ∧ s.image.kind = .mmc2 ∧ u.present = true ∧ u.image.kind = .mmc4 ∧
    ((0x0FD8 : ChrAddr) ≤ 0x0FD8 ∧ (0x0FDF : ChrAddr) ≤ 0x0FDF ∧ (0x0FFF : ChrAddr) < 0x1000) ∧
    ((0x0FE8 : ChrAddr) ≤ 0x0FE8 ∧ (0x0FEF : ChrAddr) ≤ 0x0FEF) ∧
    ((0x1FD8 : ChrAddr) ≤ 0x1FD8 ∧ (0x1FDF : ChrAddr) ≤ 0x1FDF ∧ (0x1000 : ChrAddr) ≤ 0x1000) ∧
    ((0x1FE8 : ChrAddr) ≤ 0x1FE8 ∧ (0x1FEF : ChrAddr) ≤ 0x1FEF) := by decide
/-- Each range of the MMC5 arrays at both ends. -/
theorem witness_mmc5_arrays :
    ([(0x5114, 0x5117), (0x5120, 0x5127), (0x5128, 0x512B), (0x5000, 0x500F), (0x5010, 0x5013),
      (0x5014, 0x5015)] : List (Word × Word)).all (fun r => r.1 ≤ r.1 && r.1 ≤ r.2 && r.2 ≤ r.2) = true := by
  decide
theorem witness_mmc5_exram :
    ((0x5C00 : Word) ≤ 0x5C00 ∧ (0x5C00 : Word) ≤ 0x5FFF) ∧ ((0x5C00 : Word) ≤ 0x5FFF ∧ (0x5FFF : Word) ≤ 0x5FFF) ∧
    (prgCart .mmc5 0).exram.size = exramSize := by decide
/-- ROM in mode 0; RAM in mode 3 at $8000, unlocked and, after reset, locked. -/
theorem witness_mmc5_windows :
    let k (p : BitVec 2) := mmc5WindowReg p 0
    let r : Byte := 0x7F
    let s := { prgCart .mmc5 0 with regs.mmc5.ramProtect1 := 2, regs.mmc5.ramProtect2 := 1 }
    (k 0 = 4 ∨ r.getLsbD 7 = true) ∧ ¬(k 3 = 4 ∨ r.getLsbD 7 = true) ∧
    (s.regs.mmc5.ramProtect1 = 2 ∧ s.regs.mmc5.ramProtect2 = 1) ∧
    ¬((prgCart .mmc5 0).regs.mmc5.ramProtect1 = 2 ∧ (prgCart .mmc5 0).regs.mmc5.ramProtect2 = 1) := by decide
theorem witness_scanline_kinds :
    (prgCart .mmc5 0).image.kind = .mmc5 ∧ (prgCart .fds 0).image.kind = .fds ∧
    (prgCart .vrc6 0).image.kind = .vrc6 ∧ (prgCart .vrc6a 0).image.kind = .vrc6a ∧
    (prgCart .vrc7 0).image.kind = .vrc7 ∧
    (prgCart .mmc3 0).image.kind ∉ ([.mmc5, .fds, .vrc6, .vrc6a, .vrc7] : List Kind) := by decide
/-- VRC6 with counter $FD: lengths 2 (nothing yet) and 3 (it fires). -/
theorem witness_vrc6_counter :
    let s := { prgCart .vrc6 0 with regs.vrc6.irq := ⟨0xFD, 2, 0xFD, false⟩ }
    let q : State → VrcIrq := fun t => t.regs.vrc6.irq
    (q = (fun t => t.regs.vrc6.irq) ∧ (s.image.kind = .vrc6 ∨ s.image.kind = .vrc6a) ∨
      q = (fun t => t.regs.vrc7.irq) ∧ s.image.kind = .vrc7) ∧
    s.present = true ∧ (q s).ctrl.getLsbD 1 = true ∧
    ([0, 1] : List Word).length < 256 - (q s).counter.toNat ∧
    ([0, 1, 2] : List Word).length = 256 - (q s).counter.toNat :=
  ⟨.inl ⟨rfl, .inl rfl⟩, rfl, rfl, by decide, by decide⟩
theorem witness_vrc7_counter :
    let s := { prgCart .vrc7 0 with regs.vrc7.irq := ⟨0xFF, 2, 0xFF, false⟩ }
    let q : State → VrcIrq := fun t => t.regs.vrc7.irq
    (q = (fun t => t.regs.vrc6.irq) ∧ (s.image.kind = .vrc6 ∨ s.image.kind = .vrc6a) ∨
      q = (fun t => t.regs.vrc7.irq) ∧ s.image.kind = .vrc7) ∧
    s.present = true ∧ (q s).ctrl.getLsbD 1 = true ∧
    ([] : List Word).length < 256 - (q s).counter.toNat ∧
    ([0] : List Word).length = 256 - (q s).counter.toNat :=
  ⟨.inr ⟨rfl, rfl⟩, rfl, rfl, by decide, by decide⟩
theorem witness_fds_ram : (prgCart .fds 0).prgRam.size ≠ 0 := by decide
/-- Each range of the FDS arrays at both ends. -/
theorem witness_fds_arrays :
    ([(0x4040, 0x407F), (0x4080, 0x4087), (0x4088, 0x4089)] : List (Word × Word)).all
      (fun r => r.1 ≤ r.1 && r.1 ≤ r.2 && r.2 ≤ r.2) = true := by decide
/-- One-shot (1) and repeating (3) timers that run. -/
theorem witness_fds_timer :
    let s (c : BitVec 2) := { prgCart .fds 0 with regs.fds.timerCtrl := c, regs.fds.masterIo := 1,
                                                  regs.fds.timerCounter := 2 }
    ((s 2).regs.fds.timerCtrl.getLsbD 1 = true ∧ (s 2).regs.fds.masterIo.getLsbD 0 = true ∧
      (s 2).regs.fds.timerCtrl.getLsbD 0 = false ∧ 2 ≤ (s 2).regs.fds.timerCounter.toNat) ∧
    ((s 3).regs.fds.timerCtrl.getLsbD 1 = true ∧ (s 3).regs.fds.masterIo.getLsbD 0 = true ∧
      (s 3).regs.fds.timerCtrl.getLsbD 0 = true) := by decide
theorem witness_byte_form : Instr.wellFormed (.mmc3BankData 0x9FFF 7) = true ∧
    Instr.wellFormed (.nromChrWrite 0x1FFF 0xFF) = true := by decide
theorem witness_step :
    let s := { prgCart .uxrom 0 with requests := [.bus (.cpuWrite 0x8000 3), .reset] }
    s.present = true ∧ s.requests = .bus (.cpuWrite 0x8000 3) :: [.reset] ∧
    readsAs s.image.kind (.cpuWrite 0x8000 3, .uxromBankWrite 0x8000 3) = true ∧
    State.reset.requests = [] ∧
    decodeTableWord 32 0x06038000 = some (.uxromBankWrite 0x8000 3) := by decide
/-- Requests no row decodes, and a control request, pending on a cartridge; construct pending without one. -/
theorem witness_step_other_requests :
    let s (r : Request) := { prgCart .uxrom 0 with requests := [r] }
    let u := { State.reset with requests := [.construct (leastMetadata .nrom)] }
    ([.bus (.cpuRead 0x401F), .bus (.cpuWrite 0x5000 1), .scanline 0, .reset, .irqState, .irqClear,
      .hostSave true, .hostLoad none, .shutdown, .construct (leastMetadata .nrom)] : List Request).all
      (fun r => (s r).present && (left (step (s r)) fun t => t.requests) == some []) = true ∧
    u.present = false ∧ (left (step u) State.answer) = some .cartridge := by decide
theorem witness_cpu_read_clauses :
    let s := prgCart .nrom 0
    (0x401F : Word) < 0x4020 ∧ (∀ r ∈ cpuReadRows s.image.kind, r.accepts 0x4020 0 = false) ∧
    (∀ r ∈ cpuReadRows s.image.kind, r.accepts 0x5FFF 0 = false) ∧
    readsAs s.image.kind (.cpuRead 0x6000, .nromPrgramRead 0x6000) = true ∧
    readsAs s.image.kind (.cpuRead 0xFFFF, .nromPrgRead 0xFFFF) = true := by decide
theorem witness_cpu_write_clauses :
    let s := prgCart .mmc5 0
    (0x0000 : Word) < 0x4020 ∧ (∀ r ∈ cpuWriteRows s.image.kind, r.accepts 0x5016 9 = false) ∧
    (∀ r ∈ cpuWriteRows s.image.kind, r.accepts 0x5207 9 = false) ∧
    readsAs s.image.kind (.cpuWrite 0x5015 9, .mmc5AudioWriteTop 0x5015 9) = true := by decide
theorem witness_chr_write_clauses :
    (chrCart .mmc3 0).chrRam.size = 0 ∧ (prgCart .mmc3 0).chrRam.size ≠ 0 ∧
    (left (exec (chrReadInstr (prgCart .mmc3 0).image.kind 0) (prgCart .mmc3 0)) State.answer).isSome = true := by
  decide
theorem witness_present : (prgCart .fds 0).present = true ∧ State.reset.present = false := by decide

/-- A cartridge as construction leaves it meets the invariant. -/
theorem witness_inv : Inv (newCartridge .fds (leastMetadata .fds) State.reset) ∧
    (newCartridge .fds (leastMetadata .fds) State.reset).present = true :=
  ⟨{ prgRom := by decide, chrRom := by decide, prgRam := by decide, chrRam := by decide
     exram := by decide, prgRomPresent := by decide, chrOne := by decide, exramOne := by decide
     fdsRam := by decide, factoryKind := by decide, fourScreen := by decide, ticks := by decide
     othersAtReset := by decide }, rfl⟩
/-- A step from a state that meets the invariant: a PRG-RAM write on that cartridge. -/
theorem witness_step_from_inv :
    let s := { newCartridge .fds (leastMetadata .fds) State.reset with
      requests := [.bus (.cpuWrite 0x6000 0x77)] }
    Inv s ∧ (left (step s) fun t => t.prgRam.read 0) = some 0x77 :=
  ⟨{ prgRom := by decide, chrRom := by decide, prgRam := by decide, chrRam := by decide
     exram := by decide, prgRomPresent := by decide, chrOne := by decide, exramOne := by decide
     fdsRam := by decide, factoryKind := by decide, fourScreen := by decide, ticks := by decide
     othersAtReset := by decide }, by decide⟩
/-- Construction: each outcome, and images in canonical form. -/
theorem witness_construct :
    let m (n : Word) (size : Nat) (ok : Bool) : Metadata :=
      { leastMetadata .nrom with mapperNumber := n, prgRom := Memory.zeroed size, allocOk := ok }
    ([m 6 0 true, m 6 1 true, m 0 1 false, m 0 1 true, m 20 1 true].map fun x =>
      left (construct x State.reset) State.answer) =
      [some (.failed .invalidImage), some (.failed .unsupported), some (.failed .allocFailure),
       some .cartridge, some .cartridge] ∧
    (m 0 1 true).prgRom.wf ∧ (m 0 1 true).chrRom.wf := by decide
theorem witness_no_cartridge : State.reset.present = false ∧
    (∀ m, Request.reset ≠ .construct m) ∧ ∃ m, Request.construct (leastMetadata .nrom) = .construct m :=
  ⟨rfl, fun m h => (by cases h), _, rfl⟩
/-- A pending interrupt over an instruction of the kind that is no acknowledge. -/
theorem witness_pending :
    let s := { prgCart .mmc5 0 with regs.mmc5.irqPending := true }
    Instr.kind (.mmc5IrqStatus 0x5204) = s.image.kind ∧ Instr.acknowledges (.mmc5IrqStatus 0x5204) = false ∧
    level s = true ∧ (left (exec (.mmc5IrqStatus 0x5204) s) level) = some true := by decide
/-- Over requests: each that ends a pending interrupt, and each that keeps it. -/
theorem witness_pending_requests :
    let s := { prgCart .fds 0 with regs.fds.irqPending := true }
    level s = true ∧
    ([.bus (.cpuWrite 0x4022 0x01), .bus (.cpuWrite 0x4023 0x02), .reset, .irqClear, .shutdown,
      .construct (leastMetadata .fds)] : List Request).all (fun r => r.endsPending .fds &&
        (left (handle r s) level) == some false) = true ∧
    ([.bus (.cpuRead 0x4030), .bus (.cpuRead 0x401F), .bus (.cpuWrite 0x4022 0x02),
      .bus (.cpuWrite 0x4023 0x01), .scanline 0, .irqState, .hostSave true, .hostLoad none] :
      List Request).all (fun r => !r.endsPending .fds &&
        (left (handle r s) level) == some true) = true := by decide
/-- An acknowledge write of the active kind, and its instruction's other form. -/
theorem witness_acknowledge :
    let s := { prgCart .fds 0 with regs.fds.irqPending := true }
    Instr.kind (.fdsTimerCtrl 0x4022 1) = s.image.kind ∧
    Instr.acknowledges (.fdsTimerCtrl 0x4022 1) = true ∧
    Instr.acknowledges (.fdsTimerCtrl 0x4022 2) = false := by decide
/-- A scanline that raises on each kind that can, and requests that raise nothing. -/
theorem witness_rises_over_requests :
    let m := { prgCart .mmc5 0 with regs.mmc5.irqEnable := true, regs.mmc5.irqScanline := 9 }
    let v := { prgCart .vrc7 0 with regs.vrc7.irq := { latch := 7, ctrl := 2, counter := 0xFF, pending := false } }
    let f := { prgCart .fds 0 with image.fdsTicks := 3, regs.fds.timerCtrl := 3, regs.fds.masterIo := 1 }
    (left (handle (.scanline 9) m) fun t => (t.triggers, level t)) = some (1, true) ∧
    (left (handle (.scanline 8) m) fun t => (t.triggers, level t)) = some (0, false) ∧
    (left (handle (.scanline 0) v) fun t => (t.triggers, level t)) = some (1, true) ∧
    (left (handle (.scanline 0) f) fun t => (t.triggers, level t)) = some (3, true) ∧
    (left (handle (.scanline 0) (prgCart .mmc3 0)) fun t => t.triggers) = some 0 ∧
    ([.reset, .irqState, .irqClear, .hostSave true, .hostLoad none, .shutdown,
      .construct (leastMetadata .fds)] : List Request).all (fun r =>
        (left (handle r m) fun t => t.triggers) == some 0) = true := by decide
/-- A CPU transaction, and a CHR transaction that raises. -/
theorem witness_interrupts_rise :
    let s := { prgCart .mmc3 0 with regs.mmc3.irqEnable := true }
    Instr.kind (.mmc3IrqEnable 0xE001 0) = s.image.kind ∧ Instr.isCpu (.mmc3IrqEnable 0xE001 0) = true ∧
    Instr.kind (.mmc3ChrRead 0x1000) = s.image.kind ∧ Instr.isCpu (.mmc3ChrRead 0x1000) = false ∧
    (left (exec (.mmc3ChrRead 0x1000) s) fun t => (t.triggers, level t)) = some (1, true) := by decide
theorem witness_four_screen :
    { prgCart .mmc3 0 with image.mirrorDefault := .fourScreen }.image.mirrorDefault = .fourScreen := rfl
/-- With and without a battery; a wrong length. -/
theorem witness_save :
    let s := { prgCart .nrom 0 with image.hasBattery := true }
    s.prgRam.wf ∧ s.image.hasBattery = true ∧ s.prgRam.size = 0x2000 ∧
    (prgCart .nrom 0).image.hasBattery = false ∧ ([] : List Byte).length ≠ s.prgRam.size := by decide

end Sys2Proof.Tests
end

section
/-!
The unbanked CHR window (20_memory.md R230, R231): bank 0 of the 8K window is the PPU address
mirrored over the buffer, and the CHR rows of the five unbanked kinds are exactly that window.
-/

namespace Sys2Proof.Machine

open Sys2Proof Sys2Proof.Config

/-- Bank 0 exists in every buffer, so only the place in the window and the mirroring are left
(R211 to R213). -/
theorem bankOffset_bank_zero (size bs a : Nat) : bankOffset size 0 bs a = a % bs % size := by
  unfold bankOffset
  rw [Nat.zero_mod, Nat.zero_mul, Nat.zero_add]

/-- A PPU address has 13 bits, so it is its own place in an 8K window. -/
theorem chrAddr_mod_k8 (a : ChrAddr) : a.toNat % k8 = a.toNat := Nat.mod_eq_of_lt a.isLt

/-- The unbanked CHR read, by where the cartridge's CHR stands (R212, R230). -/
theorem unbankedChr_eq (s : State) (a : ChrAddr) :
    unbankedChr s a = if s.chrRam.size = 0
      then s.image.chrRom.read (a.toNat % s.image.chrRom.size)
      else s.chrRam.read (a.toNat % s.chrRam.size) := by
  unfold unbankedChr chrBank chrTarget
  rw [bankOffset_bank_zero, chrAddr_mod_k8]
  by_cases h : s.chrRam.size = 0
  · simp only [if_pos h]
  · simp only [if_neg h]

/-- The CHR read rows of the five kinds of R230 have one meaning. -/
theorem exec_unbankedChrRead (s : State) (a : ChrAddr) :
    ∀ i ∈ ([.nromChrRead a, .uxromChrRead a, .camericaChrRead a, .axromChrRead a,
        .fdsChrRead a] : List Instr), exec i s = reply (unbankedChr s a) s := by
  simp only [List.forall_mem_cons]
  exact ⟨rfl, rfl, rfl, rfl, rfl, List.forall_mem_nil _⟩

/-- The CHR write rows of the five kinds of R231 have one meaning. -/
theorem exec_unbankedChrWrite (s : State) (a : ChrAddr) (v : Byte) :
    ∀ i ∈ ([.nromChrWrite a v, .uxromChrWrite a v, .camericaChrWrite a v, .axromChrWrite a v,
        .fdsChrWrite a v] : List Instr), exec i s = done (unbankedChrStore s a v) := by
  simp only [List.forall_mem_cons]
  exact ⟨rfl, rfl, rfl, rfl, rfl, List.forall_mem_nil _⟩

/-- Settles O8: the rows are the unbanked window, whose read mirrors and whose store is the CHR
store of bank 0. -/
theorem unbankedChrReadsAndStores : Obligations.UnbankedChrReadsAndStores := by
  intro s a v
  constructor
  · intro i hi
    rw [exec_unbankedChrRead s a i hi, reply_eq, unbankedChr_eq]
  · intro i hi
    have hexec : exec i s = .next { unbankedChrStore s a v with answer := .nothing } := by
      rw [exec_unbankedChrWrite s a v i hi, done_eq]
    exact ⟨_, hexec, chrStored_chrStore s 0 k8 a v⟩

end Sys2Proof.Machine
end

section
/-!
The MMC1 serial port (30_encoding.md R303, 42_mmc1.md R600): which row decodes a write from $8000,
what one serial write does to the register file, and the value that a sequence of writes assembles.
-/

namespace Sys2Proof.Machine

open Sys2Proof

/-! ### Decoding a write from $8000 -/

/-- The upper half of the CPU's addresses is where bit 15 is set. -/
theorem word_bit15_iff (a : Word) : a.getLsbD 15 = true ↔ 0x8000 ≤ a := by
  rw [← BitVec.msb_eq_getLsbD_last, BitVec.msb_eq_decide, decide_eq_true_iff, BitVec.le_def]
  rfl

/-- The mask $8000 keeps bit 15, which is set from $8000 on. -/
theorem word_and_8000 (a : Word) (ha : 0x8000 ≤ a) : a &&& 0x8000 = 0x8000 := by
  have h := BitVec.and_twoPow a 15
  rwa [if_pos ((word_bit15_iff a).2 ha)] at h

/-- From $8000 the mask $E000 leaves one of four 8K regions, by bits 14 and 13. -/
theorem word_and_E000 (a : Word) (ha : 0x8000 ≤ a) :
    a &&& 0xE000 = 0x8000 ∨ a &&& 0xE000 = 0xA000 ∨ a &&& 0xE000 = 0xC000 ∨
      a &&& 0xE000 = 0xE000 := by
  have h14 : a &&& 0x4000 = if a.getLsbD 14 then 0x4000 else 0 := BitVec.and_twoPow a 14
  have h13 : a &&& 0x2000 = if a.getLsbD 13 then 0x2000 else 0 := BitVec.and_twoPow a 13
  have h : a &&& 0xE000 = 0x8000 ||| (if a.getLsbD 14 then 0x4000 else 0) |||
      (if a.getLsbD 13 then 0x2000 else 0) :=
    calc a &&& 0xE000
        = a &&& (0x8000 ||| 0x4000 ||| 0x2000) := rfl
      _ = (a &&& 0x8000) ||| (a &&& 0x4000) ||| (a &&& 0x2000) := by
          rw [BitVec.and_or_distrib_left, BitVec.and_or_distrib_left]
      _ = _ := by rw [word_and_8000 a ha, h14, h13]
  rw [h]
  generalize a.getLsbD 14 = b14
  generalize a.getLsbD 13 = b13
  decide +revert

/-- The data mask $80 keeps bit 7 (R303). -/
theorem byte_and_80 (v : Byte) : v &&& 0x80 = if v.getLsbD 7 then 0x80 else 0 :=
  BitVec.and_twoPow v 7

/-- A CPU write from $8000 is within the contract, so the rows of the kind decode it. -/
theorem decode_cpuWrite_high (k : Kind) (a : Word) (v : Byte) (ha : 0x8000 ≤ a) :
    decode k (.cpuWrite a v) = findRow (cpuWriteRows k) a v :=
  if_neg (by bv_omega)

/-- The first row that accepts the address and value is the one that decodes them. -/
theorem findRow_cons (r : Row) (rows : List Row) (a : Word) (v : Byte) :
    findRow (r :: rows) a v = if r.accepts a v then .ok (r.build a v) else findRow rows a v := by
  unfold findRow
  rw [List.find?_cons]
  cases r.accepts a v <;> rfl

theorem serialRow_accepts (mask want a : Word) (dmask dwant v : Byte)
    (build : Word → Byte → Instr) : (serialRow mask want dmask dwant build).accepts a v =
      (a &&& mask == want && v &&& dmask == dwant) := rfl

/-- Bit 7 set: the reset row, whatever the address. -/
theorem decode_mmc1_resetWrite (a : Word) (v : Byte) (ha : 0x8000 ≤ a) (hv : v.getLsbD 7 = true) :
    decode .mmc1 (.cpuWrite a v) = .ok (.mmc1ResetWrite a v) := by
  have hfits : (a &&& 0x8000 == (0x8000 : Word) && v &&& 0x80 == (0x80 : Byte)) = true := by
    rw [word_and_8000 a ha, byte_and_80, if_pos hv]
    decide
  rw [decode_cpuWrite_high _ a v ha, cpuWriteRows, findRow_cons, serialRow_accepts, if_pos hfits]
  rfl

/-- Bit 7 clear: the serial row of the 8K region of the address. -/
theorem decode_mmc1_serialWrite (a : Word) (v : Byte) (ha : 0x8000 ≤ a)
    (hv : v.getLsbD 7 = false) :
    ∃ i ∈ ([.mmc1WriteControl a v, .mmc1WriteChr0 a v, .mmc1WriteChr1 a v,
        .mmc1WritePrg a v] : List Instr), decode .mmc1 (.cpuWrite a v) = .ok i := by
  have hbyte : v &&& 0x80 = 0 := by rw [byte_and_80, hv]; rfl
  simp only [decode_cpuWrite_high _ a v ha, cpuWriteRows, findRow_cons, serialRow_accepts, hbyte]
  rcases word_and_E000 a ha with hregion | hregion | hregion | hregion <;>
    rw [hregion] <;> simp [serialRow]

/-- The reset form is decoded exactly where bit 7 is set (R303). -/
theorem decode_mmc1_resetWrite_iff (a : Word) (v : Byte) (ha : 0x8000 ≤ a) :
    decode .mmc1 (.cpuWrite a v) = .ok (.mmc1ResetWrite a v) ↔ v.getLsbD 7 = true := by
  refine ⟨fun h => ?_, decode_mmc1_resetWrite a v ha⟩
  by_contra hv
  obtain ⟨i, hi, hdec⟩ := decode_mmc1_serialWrite a v ha (Bool.eq_false_iff.2 hv)
  obtain rfl : Instr.mmc1ResetWrite a v = i := Except.ok.inj (h.symm.trans hdec)
  simp at hi

/-! ### One serial write -/

/-- The four serial rows have one meaning (R602 to R605). -/
theorem exec_mmc1SerialWrite (s : State) (a : Word) (v : Byte) :
    ∀ i ∈ ([.mmc1WriteControl a v, .mmc1WriteChr0 a v, .mmc1WriteChr1 a v,
        .mmc1WritePrg a v] : List Instr), exec i s = done (mmc1Shift a v s) := by
  simp only [List.forall_mem_cons]
  exact ⟨rfl, rfl, rfl, rfl, List.forall_mem_nil _⟩

/-- On an MMC1 cartridge a write from $8000 with bit 7 clear is one serial write. -/
theorem handle_mmc1SerialWrite (s : State) (a : Word) (v : Byte) (hs : s.present = true)
    (hk : s.image.kind = .mmc1) (ha : 0x8000 ≤ a) (hv : v.getLsbD 7 = false) :
    handle (.bus (.cpuWrite a v)) s = .next { mmc1Shift a v s with answer := .nothing } := by
  obtain ⟨i, hi, hdec⟩ := decode_mmc1_serialWrite a v ha hv
  calc handle (.bus (.cpuWrite a v)) s
      = serveBus (.cpuWrite a v) s := handle_present _ s hs
    _ = exec i s := by simp only [serveBus, hk, hdec]
    _ = _ := by rw [exec_mmc1SerialWrite s a v i hi, done_eq]

/-- A commit stores the value in the register its target selects and keeps the rest of the file. -/
theorem mmc1Commit_regs_mmc1 (t : BitVec 2) (v : BitVec 5) (s : State) :
    (mmc1Commit t v s).regs.mmc1 =
      { s.regs.mmc1 with
        control := if t = 0 then v else s.regs.mmc1.control
        chr0 := if t = 1 then v else s.regs.mmc1.chr0
        chr1 := if t = 2 then v else s.regs.mmc1.chr1
        prg := if t = 3 then v else s.regs.mmc1.prg } := by
  have ht : t = 0 ∨ t = 1 ∨ t = 2 ∨ t = 3 := by bv_omega
  rcases ht with rfl | rfl | rfl | rfl <;> simp [mmc1Commit]

/-- A serial write while fewer than four bits are held takes one more bit. -/
theorem mmc1Shift_regs_mmc1_of_ne (a : Word) (v : Byte) (s : State)
    (h : s.regs.mmc1.shiftCount ≠ 4) :
    (mmc1Shift a v s).regs.mmc1 =
      { s.regs.mmc1 with
        shift := mmc1NextShift s.regs.mmc1 v
        shiftCount := s.regs.mmc1.shiftCount + 1 } := by
  simp only [mmc1Shift, if_neg h]

/-- The fifth serial write empties the port and commits to the register its address selects. -/
theorem mmc1Shift_regs_mmc1_of_eq (a : Word) (v : Byte) (s : State)
    (h : s.regs.mmc1.shiftCount = 4) :
    (mmc1Shift a v s).regs.mmc1 =
      { shift := 0
        shiftCount := 0
        control := if a.extractLsb 14 13 = 0 then mmc1NextShift s.regs.mmc1 v
          else s.regs.mmc1.control
        chr0 := if a.extractLsb 14 13 = 1 then mmc1NextShift s.regs.mmc1 v
          else s.regs.mmc1.chr0
        chr1 := if a.extractLsb 14 13 = 2 then mmc1NextShift s.regs.mmc1 v
          else s.regs.mmc1.chr1
        prg := if a.extractLsb 14 13 = 3 then mmc1NextShift s.regs.mmc1 v
          else s.regs.mmc1.prg } := by
  simp only [mmc1Shift, if_pos h, mmc1Commit_regs_mmc1]

/-! ### A sequence of serial writes -/

/-- The number whose binary digits, lowest first, are bit 0 of the values written (R303). -/
def serialValue (ws : List (Word × Byte)) : Nat := Nat.ofDigits 2 (ws.map (·.2.toNat % 2))

theorem serialValue_lt (ws : List (Word × Byte)) : serialValue ws < 2 ^ ws.length := by
  have h := Nat.ofDigits_lt_base_pow_length (b := 2) (l := ws.map (·.2.toNat % 2)) (by decide)
    (by simp only [List.mem_map]; rintro _ ⟨w, _, rfl⟩; exact Nat.mod_lt _ (by decide))
  rwa [List.length_map] at h

/-- A further write is a further digit on top. -/
theorem serialValue_concat (ws : List (Word × Byte)) (w : Word × Byte) :
    serialValue (ws ++ [w]) = 2 ^ ws.length * (w.2.toNat % 2) + serialValue ws := by
  simp [serialValue, Nat.ofDigits_append, Nat.add_comm]

/-- The register file whose port holds the bits of some writes, the four registers kept. -/
def Mmc1Regs.holding (r : Mmc1Regs) (ws : List (Word × Byte)) : Mmc1Regs :=
  { r with shift := BitVec.ofNat 5 (serialValue ws), shiftCount := Fin.ofNat 5 ws.length }

/-- An empty port holds the bits of no writes. -/
theorem Mmc1Regs.holding_nil (r : Mmc1Regs) (hshift : r.shift = 0) (hcount : r.shiftCount = 0) :
    r.holding [] = r := by
  cases r
  simp_all [Mmc1Regs.holding, serialValue]

/-- The bits of up to four writes are counted exactly. -/
theorem Mmc1Regs.holding_shiftCount_val (r : Mmc1Regs) (ws : List (Word × Byte))
    (hlen : ws.length ≤ 4) : (r.holding ws).shiftCount.val = ws.length :=
  Nat.mod_eq_of_lt (by omega)

/-- A port that holds the bits of some writes takes the bit of the next one in at its place. -/
theorem mmc1NextShift_holding (r : Mmc1Regs) (ws : List (Word × Byte)) (a : Word) (v : Byte)
    (hlen : ws.length ≤ 4) :
    mmc1NextShift (r.holding ws) v = BitVec.ofNat 5 (serialValue (ws ++ [(a, v)])) := by
  have hbit : (v.extractLsb 0 0).setWidth 5 = BitVec.ofNat 5 (v.toNat % 2) := by
    apply BitVec.eq_of_toNat_eq
    simp
  rw [serialValue_concat, Nat.two_pow_add_eq_or_of_lt (serialValue_lt ws), mmc1NextShift,
    r.holding_shiftCount_val ws hlen, hbit, BitVec.or_comm]
  apply BitVec.eq_of_toNat_eq
  simp [Mmc1Regs.holding, Nat.shiftLeft_eq, Nat.mul_comm]

/-- A serial write that is not the fifth adds its bit to those held. -/
theorem mmc1Shift_regs_mmc1_of_holding (s : State) (r : Mmc1Regs) (ws : List (Word × Byte))
    (a : Word) (v : Byte) (hlen : ws.length < 4) (hheld : s.regs.mmc1 = r.holding ws) :
    (mmc1Shift a v s).regs.mmc1 = r.holding (ws ++ [(a, v)]) := by
  have hval := r.holding_shiftCount_val ws hlen.le
  have hcount : (r.holding ws).shiftCount + 1 = Fin.ofNat 5 (ws ++ [(a, v)]).length := by
    simp [Mmc1Regs.holding, Fin.ext_iff, Fin.val_add]
  have hne : (r.holding ws).shiftCount ≠ 4 := fun h => by
    rw [h] at hval
    exact absurd hval (by simp; omega)
  rw [mmc1Shift_regs_mmc1_of_ne a v s (hheld ▸ hne), hheld,
    mmc1NextShift_holding r ws a v hlen.le, hcount]
  rfl

/-- Running two sequences one after the other. -/
theorem run_append (rs rs' : List Request) (s : State) :
    run (rs ++ rs') s = (run rs s).bind (run rs') := by
  induction rs generalizing s with
  | nil => rfl
  | cons r rs ih =>
    simp only [List.cons_append, run]
    cases handle r s with
    | next t => exact ih t
    | fault _ => rfl
    | refused _ => rfl

/-- The request that writes a byte at an address. -/
def writeRequest (w : Word × Byte) : Request := .bus (.cpuWrite w.1 w.2)

/-- Up to four serial writes from an empty port leave their bits in it, and the four registers and
the cartridge as they were: induction on the writes, the last one taken off. -/
theorem run_mmc1SerialWrites (s : State) (hs : s.present = true) (hk : s.image.kind = .mmc1)
    (hshift : s.regs.mmc1.shift = 0) (hcount : s.regs.mmc1.shiftCount = 0)
    (ws : List (Word × Byte)) (hws : ∀ w ∈ ws, 0x8000 ≤ w.1 ∧ w.2.getLsbD 7 = false)
    (hlen : ws.length ≤ 4) :
    ∃ t, run (ws.map writeRequest) s = some t ∧ t.present = true ∧ t.image.kind = .mmc1 ∧
      t.regs.mmc1 = s.regs.mmc1.holding ws := by
  induction ws using List.reverseRecOn with
  | nil => exact ⟨s, rfl, hs, hk, (s.regs.mmc1.holding_nil hshift hcount).symm⟩
  | append_singleton ws w ih =>
    obtain ⟨a, v⟩ := w
    rw [List.length_append, List.length_singleton] at hlen
    obtain ⟨t, hrun, hpresent, hkind, hheld⟩ :=
      ih (fun x hx => hws x (List.mem_append_left _ hx)) (by omega)
    obtain ⟨ha, hv⟩ := hws (a, v) (List.mem_append_right _ (List.mem_singleton_self _))
    refine ⟨{ mmc1Shift a v t with answer := .nothing }, ?_, ?_, ?_, ?_⟩
    · rw [List.map_append, run_append, hrun]
      simp only [Option.bind_some, List.map_cons, List.map_nil, run, writeRequest,
        handle_mmc1SerialWrite t a v hpresent hkind ha hv]
    · rw [mmc1Shift_present, hpresent]
    · rw [mmc1Shift_image, hkind]
    · exact mmc1Shift_regs_mmc1_of_holding t _ ws a v (by omega) hheld

/-- Settles O11: four writes leave their bits in the port and the fifth commits all five; the
decoder takes the reset form exactly where bit 7 is set. -/
theorem mmc1FiveWritesAssembleOneValue : Obligations.Mmc1FiveWritesAssembleOneValue := by
  refine ⟨?_, fun s a v ha => ⟨decode_mmc1_resetWrite_iff a v ha, _, rfl, rfl, rfl⟩⟩
  intro s a b c d e va vb vc vd ve hs hk hshift hcount ha hb hc hd he hva hvb hvc hvd hve
  have hws : ∀ w ∈ [(a, va), (b, vb), (c, vc), (d, vd)],
      0x8000 ≤ w.1 ∧ w.2.getLsbD 7 = false := by
    simp only [List.forall_mem_cons]
    exact ⟨⟨ha, hva⟩, ⟨hb, hvb⟩, ⟨hc, hvc⟩, ⟨hd, hvd⟩, List.forall_mem_nil _⟩
  obtain ⟨t, hrun, hpresent, hkind, hheld⟩ :=
    run_mmc1SerialWrites s hs hk hshift hcount _ hws (by simp)
  have hfive := run_append ([(a, va), (b, vb), (c, vc), (d, vd)].map writeRequest)
    [.bus (.cpuWrite e ve)] s
  rw [hrun] at hfive
  simp only [Option.bind_some, run, handle_mmc1SerialWrite t e ve hpresent hkind he hve] at hfive
  have hfull : t.regs.mmc1.shiftCount = 4 := by rw [hheld]; rfl
  have hvalue : mmc1NextShift t.regs.mmc1 ve = BitVec.ofNat 5 (va.toNat % 2 + vb.toNat % 2 * 2 +
      vc.toNat % 2 * 4 + vd.toNat % 2 * 8 + ve.toNat % 2 * 16) := by
    rw [hheld, mmc1NextShift_holding _ _ e ve (by simp)]
    congr 1
    simp only [serialValue, List.cons_append, List.nil_append, List.map_cons, List.map_nil,
      Nat.ofDigits_cons, Nat.ofDigits_nil]
    omega
  refine ⟨_, _, hfive, hvalue, ?_⟩
  refine (mmc1Shift_regs_mmc1_of_eq e ve t hfull).trans ?_
  rw [hheld]
  rfl

end Sys2Proof.Machine
end

section
/-!
The bus transactions of the facade (40_facade.md R410 to R413) and `irq_state` (R416): which rows
decode a CPU transaction, what every row of a format can write, and what that leaves of a whole
transaction.
-/

namespace Sys2Proof.Machine

open Sys2Proof Sys2Proof.Config

/-! ### The interrupt level -/

/-- The flag of a kind, by the six kinds that have an IRQ unit (R416). -/
theorem pending_eq_ite (k : Kind) (r : RegFiles) :
    r.pending k =
      if k = .mmc3 then r.mmc3.irqPending
      else if k = .mmc5 then r.mmc5.irqPending
      else if k = .vrc6 ∨ k = .vrc6a then r.vrc6.irq.pending
      else if k = .vrc7 then r.vrc7.irq.pending
      else if k = .fds then r.fds.irqPending
      else false := by
  cases k <;> rfl

/-- Settles O54: `irq_state` answers the flag of the active kind, and that flag is the one written
out in the statement. -/
theorem irqStateReportsPendingWithoutClearing :
    Obligations.IrqStateReportsPendingWithoutClearing := by
  intro s
  rw [irqState, pending_eq_ite]

/-! ### Decoding a CPU transaction -/

/-- What is decoded is built by a row of the list that accepts the transaction. -/
theorem findRow_ok (rows : List Row) (a : Word) (v : Byte) (i : Instr)
    (h : findRow rows a v = .ok i) : ∃ r ∈ rows, r.accepts a v = true ∧ r.build a v = i := by
  unfold findRow at h
  split at h
  next r hfind =>
    have haccepts := List.find?_some hfind
    exact ⟨r, List.mem_of_find?_eq_some hfind, haccepts, Except.ok.inj h⟩
  next => cases h

/-- What the rows decode above the contract's lower bound (R405), which both CPU formats share. -/
theorem findRow_above_cpuBase_ok (rows : List Row) (a : Word) (v : Byte) (i : Instr)
    (h : (if a < cpuBase then .error .belowContract else findRow rows a v) = .ok i) :
    ¬a < 0x4020 ∧ ∃ r ∈ rows, r.accepts a v = true ∧ r.build a v = i := by
  by_cases hbase : a < cpuBase
  · rw [if_pos hbase] at h
    cases h
  · rw [if_neg hbase] at h
    exact ⟨hbase, findRow_ok rows a v i h⟩

/-- A CPU read that is decoded lies within the contract and is built by a row that accepts it. -/
theorem decode_cpuRead_ok (k : Kind) (a : Word) (i : Instr) (h : decode k (.cpuRead a) = .ok i) :
    ¬a < 0x4020 ∧ ∃ r ∈ cpuReadRows k, r.accepts a 0 = true ∧ r.build a 0 = i :=
  findRow_above_cpuBase_ok _ _ _ _ h

/-- A CPU write that is decoded lies within the contract and is built by a row that accepts it. -/
theorem decode_cpuWrite_ok (k : Kind) (a : Word) (v : Byte) (i : Instr)
    (h : decode k (.cpuWrite a v) = .ok i) :
    ¬a < 0x4020 ∧ ∃ r ∈ cpuWriteRows k, r.accepts a v = true ∧ r.build a v = i :=
  findRow_above_cpuBase_ok _ _ _ _ h

/-! ### Serving a bus transaction -/

/-- A transaction that is decoded is its instruction. -/
theorem serveBus_of_ok (b : Bus) (s : State) (i : Instr) (h : decode s.image.kind b = .ok i) :
    serveBus b s = exec i s := by
  rw [serveBus, h]

/-- A transaction that is not decoded is unmapped. -/
theorem serveBus_of_error (b : Bus) (s : State) (e : Reject)
    (h : decode s.image.kind b = .error e) : serveBus b s = unmapped b s := by
  rw [serveBus, h]

/-! ### CPU reads -/

/-- Every CPU read row answers a byte of the state before and writes nothing (R206, R410). -/
theorem exec_cpuReadRow (k : Kind) :
    ∀ r ∈ cpuReadRows k, ∀ (a : Word) (s : State), ∃ v, exec (r.build a 0) s = reply v s := by
  cases k <;>
  · rw [cpuReadRows]
    intro r hr
    fin_cases hr <;> exact fun a s => ⟨_, rfl⟩

/-- Settles O45: a decoded read is built by a row, and every row only answers; an undecoded one
answers 0. -/
theorem cpuReadsChangeNothingButTheAnswer : Obligations.CpuReadsChangeNothingButTheAnswer := by
  intro s a
  cases hdec : decode s.image.kind (.cpuRead a) with
  | ok i =>
    obtain ⟨hbase, r, hr, haccepts, rfl⟩ := decode_cpuRead_ok _ _ _ hdec
    obtain ⟨v, hexec⟩ := exec_cpuReadRow _ r hr a s
    refine ⟨v, ?_, fun hbelow => absurd hbelow hbase, fun hnone => ?_, fun j hj => ?_⟩
    · rw [serveBus_of_ok _ _ _ hdec, hexec, reply_eq]
    · rw [hnone r hr] at haccepts
      cases haccepts
    · rw [← Except.ok.inj hj, hexec, reply_eq]
  | error e =>
    refine ⟨0, ?_, fun _ => rfl, fun _ => rfl, fun i hok => ?_⟩
    · rw [serveBus_of_error _ _ _ hdec]
      rfl
    · cases hok

/-! ### CPU writes -/

/-- What no CPU write touches: the cartridge's presence, its image with both ROMs, CHR-RAM, the
events emitted and the pending requests (R411). -/
structure CpuWriteKeeps (s t : State) : Prop where
  present : t.present = s.present
  image : t.image = s.image
  chrRam : t.chrRam = s.chrRam
  triggers : t.triggers = s.triggers
  requests : t.requests = s.requests

section Keeps

variable {s t u : State}

@[simp] theorem CpuWriteKeeps.refl : CpuWriteKeeps s s := ⟨rfl, rfl, rfl, rfl, rfl⟩

/-- The fields that a CPU write may change. -/
@[simp] theorem CpuWriteKeeps.update (p e : Memory) (m : Mirror) (d : Bool) (r : RegFiles) :
    CpuWriteKeeps s { s with prgRam := p, exram := e, mirrorMode := m, sramDirty := d, regs := r } :=
  ⟨rfl, rfl, rfl, rfl, rfl⟩

@[simp] theorem CpuWriteKeeps.storePrgRam (o : Nat) (v : Byte) :
    CpuWriteKeeps s (storePrgRam s o v) :=
  .update ..

@[simp] theorem CpuWriteKeeps.prgRamStore (b bs : Nat) (a : Word) (v : Byte) :
    CpuWriteKeeps s (prgRamStore s b bs a v) :=
  ⟨prgRamStore_present .., prgRamStore_image .., prgRamStore_chrRam .., prgRamStore_triggers ..,
    prgRamStore_requests ..⟩

@[simp] theorem CpuWriteKeeps.mmc1Shift (a : Word) (v : Byte) :
    CpuWriteKeeps s (mmc1Shift a v s) :=
  ⟨mmc1Shift_present .., mmc1Shift_image .., mmc1Shift_chrRam .., mmc1Shift_triggers ..,
    mmc1Shift_requests ..⟩

/-- A mirroring write moves the mirroring mode at most (R105). -/
@[simp] theorem CpuWriteKeeps.setMirror (m : Mirror) (h : CpuWriteKeeps s t) :
    CpuWriteKeeps s (setMirror m t) := by
  rw [setMirror_eq]
  exact ⟨h.present, h.image, h.chrRam, h.triggers, h.requests⟩

/-- An acknowledge clears a register and emits nothing (R1212). -/
@[simp] theorem CpuWriteKeeps.ackIrq (k : Kind) (h : CpuWriteKeeps s t) :
    CpuWriteKeeps s (ackIrq k t) :=
  ⟨h.present, h.image, h.chrRam, h.triggers, h.requests⟩

/-- A gated write keeps what both its ways keep. -/
@[simp] theorem CpuWriteKeeps.ite (c : Prop) [Decidable c] (ht : CpuWriteKeeps s t)
    (hu : CpuWriteKeeps s u) : CpuWriteKeeps s (if c then t else u) := by
  split
  · exact ht
  · exact hu

end Keeps

/-- Every CPU write row ends without a result and keeps what no CPU write touches. Each row is one
of the operations above; the split that is left is on whether the value of MMC5's nametable row
names an arrangement (R906). -/
theorem exec_cpuWriteRow (k : Kind) :
    ∀ r ∈ cpuWriteRows k, ∀ (a : Word) (v : Byte) (s : State),
      ∃ t, exec (r.build a v) s = done t ∧ CpuWriteKeeps s t := by
  cases k <;>
  · rw [cpuWriteRows]
    intro r hr a v s
    fin_cases hr <;> refine ⟨_, rfl, ?_⟩ <;> simp [stdPrgRamStore] <;> split <;> simp

/-- Settles O46: a decoded write is built by a row, and no row touches what is kept; an undecoded
one changes nothing. -/
theorem cpuWritesRunTheirRowOrChangeNothing :
    Obligations.CpuWritesRunTheirRowOrChangeNothing := by
  intro s a v
  cases hdec : decode s.image.kind (.cpuWrite a v) with
  | ok i =>
    have hserve := serveBus_of_ok _ s i hdec
    obtain ⟨hbase, r, hr, haccepts, rfl⟩ := decode_cpuWrite_ok _ _ _ _ hdec
    obtain ⟨t, hexec, hkeeps⟩ := exec_cpuWriteRow _ r hr a v s
    refine ⟨fun hbelow => absurd hbelow hbase, fun hnone => ?_, fun j hj => ?_,
      { t with answer := .nothing }, by rw [hserve, hexec, done_eq], rfl, hkeeps.present,
      hkeeps.image, hkeeps.chrRam, hkeeps.triggers, hkeeps.requests⟩
    · rw [hnone r hr] at haccepts
      cases haccepts
    · rw [hserve, Except.ok.inj hj]
  | error e =>
    have hserve : serveBus (.cpuWrite a v) s = .next { s with answer := .nothing } :=
      serveBus_of_error _ s e hdec
    refine ⟨fun _ => hserve, fun _ => hserve, fun i hok => ?_,
      _, hserve, rfl, rfl, rfl, rfl, rfl, rfl⟩
    cases hok

/-! ### CHR transactions -/

/-- The CHR window of a kind at an address: the fixed 8K bank, or the bank its registers select
(R230, R532, R542, R608, R711, R812, R940, R1012, R1063). -/
def chrWindow (k : Kind) (r : RegFiles) (a : ChrAddr) : Window :=
  match k with
  | .nrom => ⟨0, k8⟩
  | .uxrom => ⟨0, k8⟩
  | .camerica => ⟨0, k8⟩
  | .cnrom => ⟨r.cnrom.chrBank.toNat, k8⟩
  | .colorDreams => ⟨r.colorDreams.chrBank.toNat, k8⟩
  | .axrom => ⟨0, k8⟩
  | .mmc1 => mmc1Chr r.mmc1 a
  | .mmc3 => mmc3Chr r.mmc3 a
  | .mmc2 => mmc24Chr r.mmc24 a
  | .mmc4 => mmc24Chr r.mmc24 a
  | .mmc5 => mmc5Chr r.mmc5 a
  | .vrc6 => vrcChr r.vrc6.chr a
  | .vrc6a => vrcChr r.vrc6.chr a
  | .vrc7 => vrcChr r.vrc7.chr a
  | .fds => ⟨0, k8⟩

/-- What a kind does on a CHR read after the byte is taken: the latches of MMC2 and MMC4 (R813), the
edge detector of MMC3 (R720). -/
def afterChrRead (k : Kind) (a : ChrAddr) (s : State) : State :=
  if k = .mmc2 ∨ k = .mmc4 then { s with regs.mmc24 := latchUpdate a s.regs.mmc24 }
  else if k = .mmc3 then edgeDetect a s
  else s

/-- What a kind does on a CHR write after the byte is stored: the edge detector of MMC3 (R720). -/
def afterChrWrite (k : Kind) (a : ChrAddr) (s : State) : State :=
  if k = .mmc3 then edgeDetect a s else s

/-- Every CHR read row: the byte its kind's window shows before the access, then the kind's own
hook (R412). -/
theorem exec_chrReadInstr (k : Kind) (a : ChrAddr) (s : State) :
    exec (chrReadInstr k a) s =
      reply (chrWindowByte s (chrWindow k s.regs a) a) (afterChrRead k a s) := by
  cases k <;> rfl

/-- Every CHR write row: a store through the kind's window, then the kind's own hook (R413). -/
theorem exec_chrWriteInstr (k : Kind) (a : ChrAddr) (v : Byte) (s : State) :
    exec (chrWriteInstr k a v) s =
      done (afterChrWrite k a (chrWindowStore s (chrWindow k s.regs a) a v)) := by
  cases k <;> rfl

/-- A latch update moves the two latches only (R813). -/
theorem latchUpdate_eq (a : ChrAddr) (r : Mmc24Regs) :
    latchUpdate a r =
      { r with latch0 := (latchUpdate a r).latch0, latch1 := (latchUpdate a r).latch1 } := by
  unfold latchUpdate
  split_ifs <;> rfl

/-- The edge detector moves A12's last value, the IRQ unit's counter and flags and the count of
events only (R720, R721). -/
theorem edgeDetect_eq (a : ChrAddr) (s : State) :
    edgeDetect a s =
      { s with
        regs.mmc3.irqCounter := (edgeDetect a s).regs.mmc3.irqCounter
        regs.mmc3.irqReload := (edgeDetect a s).regs.mmc3.irqReload
        regs.mmc3.irqPending := (edgeDetect a s).regs.mmc3.irqPending
        regs.mmc3.lastA12 := (edgeDetect a s).regs.mmc3.lastA12
        triggers := (edgeDetect a s).triggers } := by
  simp only [edgeDetect]
  split
  · obtain ⟨-, -, hclock⟩ | ⟨-, hclock⟩ := clockIrq_cases s
    · rw [hclock]
      rfl
    · rw [hclock]
  · rfl

/-- Settles O47: the row's hook is the latch update on MMC2 and MMC4, the edge detector on MMC3 and
nothing on the other kinds. -/
theorem chrReadsMoveOnlyLatchesAndEdgeState : Obligations.ChrReadsMoveOnlyLatchesAndEdgeState := by
  intro s a
  have hserve : serveBus (.chrRead a) s = exec (chrReadInstr s.image.kind (a.setWidth 13)) s := rfl
  rw [hserve]
  generalize a.setWidth 13 = b
  refine ⟨rfl, chrWindowByte s (chrWindow s.image.kind s.regs b) b,
    (latchUpdate b s.regs.mmc24).latch0, (latchUpdate b s.regs.mmc24).latch1,
    (edgeDetect b s).regs.mmc3.irqCounter, (edgeDetect b s).regs.mmc3.irqReload,
    (edgeDetect b s).regs.mmc3.irqPending, (edgeDetect b s).regs.mmc3.lastA12,
    (edgeDetect b s).triggers, ?_⟩
  rw [exec_chrReadInstr, reply_eq, afterChrRead]
  split_ifs
  · rw [latchUpdate_eq]
  · rw [edgeDetect_eq]
  · rfl

/-- What a store through a CHR window leaves of CHR-RAM (R212). -/
theorem chrWindowStore_eq (s : State) (w : Window) (a : ChrAddr) (v : Byte) :
    chrWindowStore s w a v = { s with chrRam := (chrWindowStore s w a v).chrRam } := by
  unfold chrWindowStore chrStore
  split <;> rfl

/-- Where CHR-RAM is present, a CHR read takes its byte there, at its window's offset (R212). -/
theorem exec_chrReadInstr_answer_of_chrRam (k : Kind) (a : ChrAddr) (s t : State)
    (hram : s.chrRam.size ≠ 0) (h : exec (chrReadInstr k a) s = .next t) :
    t.answer = .byte (s.chrRam.read (bankOffset s.chrRam.size (chrWindow k s.regs a).bank
      (chrWindow k s.regs a).size a.toNat)) := by
  have htarget : chrTarget s = s.chrRam := if_neg hram
  rw [exec_chrReadInstr, reply_eq, chrWindowByte, chrBank, htarget] at h
  cases h
  rfl

/-- Settles O48: the row stores through its window, and the edge detector moves on MMC3 only; the
registers select the same window before and after the store, so a read there shows the byte. -/
theorem chrWritesStoreRamOnlyAndDropOnRom : Obligations.ChrWritesStoreRamOnlyAndDropOnRom := by
  intro s a v
  have hserve : serveBus (.chrWrite a v) s =
    exec (chrWriteInstr s.image.kind (a.setWidth 13) v) s := rfl
  rw [hserve]
  generalize a.setWidth 13 = b
  generalize hw : chrWindow s.image.kind s.regs b = w
  generalize ht : chrWindowStore s w b v = t
  refine ⟨rfl, t.chrRam,
    (edgeDetect b t).regs.mmc3.irqCounter, (edgeDetect b t).regs.mmc3.irqReload,
    (edgeDetect b t).regs.mmc3.irqPending, (edgeDetect b t).regs.mmc3.lastA12,
    (edgeDetect b t).triggers, ?_, fun habsent => ?_, fun hram => ?_⟩
  · have hchr : t = { s with chrRam := t.chrRam } := ht ▸ chrWindowStore_eq s w b v
    rw [exec_chrWriteInstr, done_eq, afterChrWrite, hw, ht]
    split_ifs
    · rw [edgeDetect_eq, hchr]
    · rw [hchr]
  · rw [← ht, chrWindowStore, chrStore_of_absent _ _ _ _ _ habsent]
  · have hwrite : t.chrRam = s.chrRam.write (bankOffset s.chrRam.size w.bank w.size b.toNat) v := by
      rw [← ht, chrWindowStore, chrStore_chrRam, if_neg hram]
    have hinside := bankOffset_lt s.chrRam.size w.bank w.size b.toNat hram
    have hstored := hwrite ▸ stored_write s.chrRam _ v hinside
    refine ⟨_, hinside, hstored, fun u hu => ?_⟩
    obtain ⟨hsize, hread, -⟩ := hstored
    have hanswer := exec_chrReadInstr_answer_of_chrRam _ b { s with chrRam := t.chrRam } u
      (ne_of_eq_of_ne hsize hram) hu
    rw [hanswer, hw, hsize, hread]

end Sys2Proof.Machine
end

section
/-!
The simple mappers (41_simple_mappers.md): the row that heads a kind's list decodes a CPU
transaction from $8000, a PRG window is a bank of PRG-ROM written out (20_memory.md R211), and the
rows of NROM, UxROM, CNROM and AxROM are such windows.
-/

namespace Sys2Proof.Machine

open Sys2Proof Sys2Proof.Config

/-! ### Decoding -/

/-- From $8000 to $BFFF bit 15 is set and bit 14 clear. -/
theorem word_and_C000_of_low (a : Word) (ha : 0x8000 ≤ a) (hlow : a ≤ 0xBFFF) :
    a &&& 0xC000 = 0x8000 := by
  have hregion : a &&& 0xE000 = 0x8000 ∨ a &&& 0xE000 = 0xA000 := by
    have hle : a &&& 0xE000 ≤ a := by
      rw [BitVec.le_def, BitVec.toNat_and]
      exact Nat.and_le_left
    rcases word_and_E000 a ha with h | h | h | h
    · exact .inl h
    · exact .inr h
    all_goals rw [h] at hle; bv_omega
  have hmask : a &&& 0xC000 = a &&& 0xE000 &&& 0xC000 := by rw [BitVec.and_assoc]; rfl
  rcases hregion with h | h <;> rw [hmask, h] <;> rfl

/-- A CPU read from $8000 is within the contract, so the rows of the kind decode it. -/
theorem decode_cpuRead_high (k : Kind) (a : Word) (ha : 0x8000 ≤ a) :
    decode k (.cpuRead a) = findRow (cpuReadRows k) a 0 :=
  if_neg (by bv_omega)

/-- The first `cpu_read` row of a kind decodes every address from $8000 that fits it. -/
theorem decode_cpuRead_of_head {k : Kind} {a mask want : Word} {build : Word → Instr}
    {rows : List Row} (hrows : cpuReadRows k = readRow mask want build :: rows)
    (ha : 0x8000 ≤ a) (hfits : a &&& mask = want) : decode k (.cpuRead a) = .ok (build a) := by
  have haccepts := Laws.read_row (build := build) (beq_iff_eq.2 hfits)
  rw [decode_cpuRead_high k a ha, hrows, findRow_cons, if_pos haccepts]
  rfl

/-- The first `cpu_write` row of a kind decodes every address from $8000 that fits it. -/
theorem decode_cpuWrite_of_head {k : Kind} {a mask want : Word} {v : Byte}
    {build : Word → Byte → Instr} {rows : List Row}
    (hrows : cpuWriteRows k = writeRow mask want build :: rows)
    (ha : 0x8000 ≤ a) (hfits : a &&& mask = want) :
    decode k (.cpuWrite a v) = .ok (build a v) := by
  have haccepts := Laws.write_row (v := v) (build := build) (beq_iff_eq.2 hfits)
  rw [decode_cpuWrite_high k a v ha, hrows, findRow_cons, if_pos haccepts]
  rfl

/-- A CHR read put on the 16-bit bus is the CHR read row of the kind (R412). -/
theorem decode_chrRead_setWidth (k : Kind) (c : ChrAddr) :
    decode k (.chrRead (c.setWidth 16)) = .ok (chrReadInstr k c) := by
  rw [decode, Laws.chr_addr]

/-- A CHR write put on the 16-bit bus is the CHR write row of the kind (R413). -/
theorem decode_chrWrite_setWidth (k : Kind) (c : ChrAddr) (v : Byte) :
    decode k (.chrWrite (c.setWidth 16) v) = .ok (chrWriteInstr k c v) := by
  rw [decode, Laws.chr_addr]

/-! ### PRG windows -/

/-- The byte of a PRG-ROM bank, with the bank arithmetic written out (R211). -/
theorem prgRomBank_eq (s : State) (b bs : Nat) (a : Word) :
    prgRomBank s b bs a = s.image.prgRom.read
      ((b % max 1 (s.image.prgRom.size / bs) * bs + a.toNat % bs) % s.image.prgRom.size) := by
  rw [prgRomBank, bankOffset, nbanks]

/-- A fixed PRG window is the PRG-ROM from its first byte, mirrored over the window. -/
theorem prgRomBank_bank_zero (s : State) (bs : Nat) (a : Word) :
    prgRomBank s 0 bs a = s.image.prgRom.read (a.toNat % bs % s.image.prgRom.size) := by
  rw [prgRomBank, bankOffset_bank_zero]

/-- The PRG reads of NROM and CNROM are one fixed 32K window (R510, R531). -/
theorem exec_fixedPrgRead (s : State) (a : Word) :
    ∀ i ∈ ([.nromPrgRead a, .cnromPrgRead a] : List Instr), exec i s = .next { s with
      answer := .byte (s.image.prgRom.read (a.toNat % 0x8000 % s.image.prgRom.size)) } := by
  have hwindow : ∀ i ∈ ([.nromPrgRead a, .cnromPrgRead a] : List Instr),
      exec i s = reply (prgRomBank s 0 k32 a) s := by
    simp only [List.forall_mem_cons]
    exact ⟨rfl, rfl, List.forall_mem_nil _⟩
  intro i hi
  rw [hwindow i hi, reply_eq, prgRomBank_bank_zero]

/-- The UxROM low read is the 16K bank that `prg_bank` selects (R521). -/
theorem exec_uxromPrgReadLow (s : State) (a : Word) :
    exec (.uxromPrgReadLow a) s = reply (prgRomBank s s.regs.uxrom.prgBank.toNat k16 a) s := rfl

/-- The AxROM read is the 32K bank that `prg_bank` selects (R551). -/
theorem exec_axromPrgRead (s : State) (a : Word) :
    exec (.axromPrgRead a) s = reply (prgRomBank s s.regs.axrom.prgBank.toNat k32 a) s := rfl

/-! ### CNROM's CHR window -/

/-- The CNROM CHR read is the 8K bank that `chr_bank` selects (R532). -/
theorem exec_cnromChrRead (s : State) (c : ChrAddr) :
    exec (.cnromChrRead c) s = reply (chrBank s s.regs.cnrom.chrBank.toNat k8 c) s := rfl

/-- The CNROM CHR write is a store through the same window (R533). -/
theorem exec_cnromChrWrite (s : State) (c : ChrAddr) (v : Byte) :
    exec (.cnromChrWrite c v) s = done (chrStore s s.regs.cnrom.chrBank.toNat k8 c v) := rfl

/-! ### The four obligations -/

/-- Settles O1: the read is the fixed 32K window; with a 16KB ROM the reduction modulo 32K is
absorbed by the one modulo 16K, which divides it. -/
theorem nromReadsRomMirroredAndIgnoresWrites :
    Obligations.NromReadsRomMirroredAndIgnoresWrites := by
  intro s a v
  have hread := exec_fixedPrgRead s a (.nromPrgRead a) (by simp)
  have hdecode (ha : 0x8000 ≤ a) : decode .nrom (.cpuRead a) = .ok (.nromPrgRead a) ∧
      decode .nrom (.cpuWrite a v) = .ok (.nromPrgWrite a v) :=
    ⟨decode_cpuRead_of_head rfl ha (word_and_8000 a ha),
      decode_cpuWrite_of_head rfl ha (word_and_8000 a ha)⟩
  have hmirror (hsize : s.image.prgRom.size = 0x4000) :
      a.toNat % 0x8000 % s.image.prgRom.size = a.toNat % 0x4000 := by
    rw [hsize, Nat.mod_mod_of_dvd _ (by decide)]
  exact ⟨hdecode, hread, fun hsize => by rw [hread, hmirror hsize], rfl⟩

/-- Settles O2: the bank row heads the write rows, the low row the read rows, and the low window is
the 16K bank of `prg_bank`. -/
theorem uxromBankWriteSelectsLowWindow : Obligations.UxromBankWriteSelectsLowWindow := by
  intro s a v
  refine ⟨fun ha => ?_, fun ha hlow => ?_, rfl, ?_⟩
  · exact decode_cpuWrite_of_head rfl ha (word_and_8000 a ha)
  · exact decode_cpuRead_of_head rfl ha (word_and_C000_of_low a ha hlow)
  · rw [exec_uxromPrgReadLow, reply_eq, prgRomBank_eq]

/-- Settles O4: PRG is the fixed 32K window, and both CHR rows go through the 8K bank of
`chr_bank`. -/
theorem cnromReadsFixedPrgAndBankedChr : Obligations.CnromReadsFixedPrgAndBankedChr := by
  intro s a c v
  refine ⟨fun ha => decode_cpuRead_of_head rfl ha (word_and_8000 a ha),
    decode_chrRead_setWidth .cnrom c, decode_chrWrite_setWidth .cnrom c v,
    exec_fixedPrgRead s a (.cnromPrgRead a) (by simp), ?_, ?_⟩
  · rw [exec_cnromChrRead, reply_eq]
  · refine ⟨_, ?_, chrStored_chrStore s s.regs.cnrom.chrBank.toNat k8 c v⟩
    rw [exec_cnromChrWrite, done_eq]

/-- Settles O5: the read row heads its list, and its window is the 32K bank of `prg_bank`. -/
theorem axromReadShowsSelectedBank : Obligations.AxromReadShowsSelectedBank := by
  intro s a
  refine ⟨fun ha => decode_cpuRead_of_head rfl ha (word_and_8000 a ha), ?_⟩
  rw [exec_axromPrgRead, reply_eq, prgRomBank_eq]

end Sys2Proof.Machine
end

section
/-!
The MMC3 bank data register (43_mmc3.md R702): the odd row of $8000-$9FFF decodes behind the even
one, and its write is one register of the array.
-/

namespace Sys2Proof.Machine

open Sys2Proof

/-- A CPU write row at the head of the list decodes the addresses that fit it and leaves the others
to the rows behind it. -/
theorem findRow_writeRow (mask want : Word) (build : Word → Byte → Instr) (rows : List Row)
    (a : Word) (v : Byte) : findRow (writeRow mask want build :: rows) a v =
      if a &&& mask = want then .ok (build a v) else findRow rows a v := by
  have haccepts : (writeRow mask want build).accepts a v = (a &&& mask == want) := by
    simp [Row.accepts, writeRow]
  rw [findRow_cons, haccepts]
  simp only [beq_iff_eq, writeRow]

/-- An odd address of $8000-$9FFF is the bank data row: the bank select row before it wants bit 0
clear. -/
theorem decode_mmc3BankData (a : Word) (v : Byte) (hfits : a &&& 0xE001 = 0x8001) :
    decode .mmc3 (.cpuWrite a v) = .ok (.mmc3BankData a v) := by
  have ha : 0x8000 ≤ a := by
    have hle : a &&& 0xE001 ≤ a := by
      rw [BitVec.le_def, BitVec.toNat_and]
      exact Nat.and_le_left
    rw [hfits] at hle
    bv_omega
  have hodd : a &&& 0xE001 ≠ 0x8000 := by rw [hfits]; decide
  rw [decode_cpuWrite_high _ a v ha, cpuWriteRows, findRow_writeRow, if_neg hodd,
    findRow_writeRow, if_pos hfits]

/-- The bank data write stores the byte in the register that `bank_select[2:0]` names (R702). -/
theorem exec_mmc3BankData (s : State) (a : Word) (v : Byte) : exec (.mmc3BankData a v) s =
    done { s with
      regs.mmc3.r :=
        regSet s.regs.mmc3.r (s.regs.mmc3.bankSelect.extractLsb 2 0).toNat v } := rfl

/-- Settles O14: the odd row decodes, and its write is one store into the register array, which
keeps the other registers. -/
theorem mmc3BankDataStoresTheSelectedRegister :
    Obligations.Mmc3BankDataStoresTheSelectedRegister := by
  intro s a v
  refine ⟨decode_mmc3BankData a v, _, ?_, regStored_regSet s.regs.mmc3.r _ v⟩
  rw [exec_mmc3BankData, done_eq]

end Sys2Proof.Machine
end

section
/-!
Completion of a transaction (60_exceptions.md R1200, R1202): every instruction ends with the answer
its format asks for, a byte for a read and nothing for a write, and a cartridge serves every request
without a fault or a refusal.
-/

namespace Sys2Proof.Machine

open Sys2Proof

/-! ### Instructions -/

/-- The answers that end a bus transaction: a byte for the read formats, nothing for the write
formats (R300, R35). -/
def answerFits : Bus → Answer → Bool
  | .cpuRead _, .byte _ => true
  | .chrRead _, .byte _ => true
  | .cpuWrite _ _, .nothing => true
  | .chrWrite _ _, .nothing => true
  | _, _ => false

/-- Fitting a format, spelled out format by format. -/
theorem answerFits_iff (b : Bus) (x : Answer) :
    answerFits b x = true ↔
      match b with
      | .cpuRead _ => ∃ v, x = .byte v
      | .chrRead _ => ∃ v, x = .byte v
      | .cpuWrite _ _ => x = .nothing
      | .chrWrite _ _ => x = .nothing := by
  cases b <;> cases x <;> simp [answerFits]

/-- Every row's meaning is a `reply` on the read formats and a `done` on the write formats, whatever
the operands and the state; so each arm computes to a next state with its answer (R1202). -/
theorem exec_answerFits (i : Instr) (s : State) :
    ∃ t, exec i s = .next t ∧ answerFits i.bus t.answer = true := by
  cases i <;> exact ⟨_, rfl, rfl⟩

/-! ### Requests -/

/-- A bus transaction completes, decoded or not (R222, R405, R1202). -/
theorem serveBus_completes (b : Bus) (s : State) : ∃ t, serveBus b s = .next t := by
  cases hdec : decode s.image.kind b with
  | ok i =>
    obtain ⟨t, hexec, -⟩ := exec_answerFits i s
    exact ⟨t, (serveBus_of_ok b s i hdec).trans hexec⟩
  | error e =>
    rw [serveBus_of_error b s e hdec]
    obtain h | h := unmapped_cases b s <;> exact ⟨_, h⟩

/-- Construction completes: its three failures are answers, not stops (R1201). -/
theorem construct_completes (m : Metadata) (s : State) : ∃ t, construct m s = .next t := by
  obtain ⟨-, h⟩ | ⟨-, -, h⟩ | ⟨_, -, -, -, -, h⟩ | ⟨_, -, -, -, h⟩ := construct_cases m s <;>
    exact ⟨_, h⟩

/-- A save completes: without a battery, with the host's write failed, and with it done (R420). -/
theorem hostSave_completes (ioOk : Bool) (s : State) : ∃ t, hostSave ioOk s = .next t := by
  unfold hostSave
  split_ifs <;> exact ⟨_, rfl⟩

/-- A load completes: without a battery, with the host's read failed, and by the length read
(R421). -/
theorem hostLoad_completes (d : Option (List Byte)) (s : State) :
    ∃ t, hostLoad d s = .next t := by
  unfold hostLoad
  cases d <;> dsimp only <;> split_ifs <;> exact ⟨_, rfl⟩

/-- Every request that reaches a cartridge completes; the five control operations without a failure
of their own always end with `done` or with the level (R1200). -/
theorem serve_completes (r : Request) (s : State) : ∃ t, serve r s = .next t := by
  cases r with
  | bus b => exact serveBus_completes b s
  | scanline n => exact ⟨_, rfl⟩
  | reset => exact ⟨_, rfl⟩
  | irqState => exact ⟨_, rfl⟩
  | irqClear => exact ⟨_, rfl⟩
  | construct m => exact construct_completes m s
  | hostSave ioOk => exact hostSave_completes ioOk s
  | hostLoad d => exact hostLoad_completes d s
  | shutdown => exact ⟨_, rfl⟩

/-- Settles O49: every instruction ends with the answer of its format, and with a cartridge every
request is served, which completes. -/
theorem noTransactionOfACartridgeStops : Obligations.NoTransactionOfACartridgeStops := by
  constructor
  · intro i s
    obtain ⟨t, hexec, hanswer⟩ := exec_answerFits i s
    exact ⟨t, hexec, (answerFits_iff i.bus t.answer).1 hanswer⟩
  · intro r s hpresent
    rw [handle_present r s hpresent]
    exact serve_completes r s

end Sys2Proof.Machine
end

section
/-!
Reset (70_reset_and_hazards.md R1300 to R1302): the register values of a reset are constants, so a
second reset finds them in place.
-/

namespace Sys2Proof.Machine

open Sys2Proof

/-- The reset of a kind's register file assigns constants, so doing it again changes nothing
(R1300). -/
@[simp] theorem resetKind_resetKind (k : Kind) (r : RegFiles) :
    (r.resetKind k).resetKind k = r.resetKind k := by cases k <;> rfl

/-- The state a reset leaves (R415, R1300, R1301). -/
theorem resetCartridge_eq (s : State) :
    resetCartridge s = .next { s with
      regs := s.regs.resetKind s.image.kind
      mirrorMode := s.image.mirrorDefault
      answer := .nothing } := rfl

/-- Settles O50: the image is kept, so the second reset assigns the same constants. -/
theorem resetTwiceIsResetOnce : Obligations.ResetTwiceIsResetOnce := by
  intro s
  refine ⟨_, resetCartridge_eq s, ?_⟩
  rw [resetCartridge_eq, resetKind_resetKind]

end Sys2Proof.Machine
end

section
/-!
The MMC3 reload hazard (70_reset_and_hazards.md R1321): after a reload write the counter is 0 and
the reload flag set; no CPU transaction moves either, and a CHR access moves them on a rising edge
of A12 only, where the counter takes the latch of that moment.
-/

namespace Sys2Proof.Machine

open Sys2Proof

/-! ### The edge detector -/

/-- A requested reload takes the latch, whatever the counter (R721). -/
theorem mmc3NextCounter_of_reload (r : Mmc3Regs) (hreload : r.irqReload = true) :
    mmc3NextCounter r = r.irqLatch := if_pos (.inr hreload)

/-- A clock of the counter stores its next value, with or without an interrupt (R721). -/
@[simp] theorem clockIrq_irqCounter (s : State) :
    (clockIrq s).regs.mmc3.irqCounter = mmc3NextCounter s.regs.mmc3 := by
  obtain ⟨-, -, hclock⟩ | ⟨-, hclock⟩ := clockIrq_cases s
  · rw [hclock]; rfl
  · rw [hclock]

/-- A clock of the counter serves the reload request (R721). -/
@[simp] theorem clockIrq_irqReload (s : State) : (clockIrq s).regs.mmc3.irqReload = false := by
  obtain ⟨-, -, hclock⟩ | ⟨-, hclock⟩ := clockIrq_cases s
  · rw [hclock]; rfl
  · rw [hclock]

/-- On a rising edge of A12 the counter is clocked, and A12's level is kept (R720). -/
theorem edgeDetect_of_edge (a : ChrAddr) (s : State) (hedge : a12Edge s a = true) :
    edgeDetect a s = { clockIrq s with regs.mmc3.lastA12 := a.extractLsb 12 12 } := by
  have hrise : s.regs.mmc3.lastA12 = 0 ∧ a.extractLsb 12 12 = 1 := by
    simpa [a12Edge] using hedge
  simp only [edgeDetect, if_pos hrise]

/-- Without a rising edge only A12's level is kept (R720). -/
theorem edgeDetect_of_no_edge (a : ChrAddr) (s : State) (hedge : a12Edge s a = false) :
    edgeDetect a s = { s with regs.mmc3.lastA12 := a.extractLsb 12 12 } := by
  have hno : ¬(s.regs.mmc3.lastA12 = 0 ∧ a.extractLsb 12 12 = 1) := by
    simpa [a12Edge] using hedge
  simp only [edgeDetect, if_neg hno]

/-! ### The waiting reload -/

/-- A reload is requested and the counter is 0: what `CW $C001` leaves (R706). -/
def ReloadWaits (s : State) : Prop :=
  s.regs.mmc3.irqCounter = 0 ∧ s.regs.mmc3.irqReload = true

/-- The waiting reload is a matter of the registers only. -/
theorem ReloadWaits.of_regs_eq {s t : State} (h : t.regs = s.regs) (hwaits : ReloadWaits s) :
    ReloadWaits t := by
  rwa [ReloadWaits, h]

/-- A store through a CHR window moves no register. -/
@[simp] theorem chrWindowStore_regs (s : State) (w : Window) (a : ChrAddr) (v : Byte) :
    (chrWindowStore s w a v).regs = s.regs := by
  rw [chrWindowStore_eq]

/-- `i` is the MMC3's CHR access at `a`. -/
def IsMmc3Chr (i : Instr) (a : ChrAddr) : Prop :=
  i = .mmc3ChrRead a ∨ ∃ v, i = .mmc3ChrWrite a v

/-- A CHR access has one address. -/
theorem IsMmc3Chr.addr_unique {i : Instr} {a b : ChrAddr} (ha : IsMmc3Chr i a)
    (hb : IsMmc3Chr i b) : a = b := by
  obtain rfl | ⟨v, rfl⟩ := ha
  · simpa [IsMmc3Chr] using hb
  · simpa [IsMmc3Chr] using hb

/-- A CHR access of the MMC3 runs the edge detector on a state whose registers are those before the
access (R712, R715). -/
theorem exec_mmc3Chr {i : Instr} {a : ChrAddr} (hi : IsMmc3Chr i a) (s : State) :
    ∃ t u, exec i s = .next t ∧ u.regs = s.regs ∧ t.regs = (edgeDetect a u).regs := by
  obtain rfl | ⟨v, rfl⟩ := hi
  · exact ⟨_, s, rfl, rfl, rfl⟩
  · exact ⟨_, chrWindowStore s (mmc3Chr s.regs.mmc3 a) a v, rfl, chrWindowStore_regs .., rfl⟩

/-- An MMC3 transaction that is no CHR access leaves a waiting reload waiting: the reload write asks
for it again, and no other CPU row touches the counter or the flag (R701 to R710, R713, R714). -/
theorem exec_mmc3_keeps_reloadWaits {i : Instr} (hkind : i.kind = .mmc3)
    (hcpu : ∀ a, ¬IsMmc3Chr i a) {s : State} (hwaits : ReloadWaits s) :
    ∃ t, exec i s = .next t ∧ ReloadWaits t := by
  cases i with
  | mmc3ChrRead a => exact absurd (.inl rfl) (hcpu a)
  | mmc3ChrWrite a v => exact absurd (.inr ⟨v, rfl⟩) (hcpu a)
  | mmc3IrqReload a v => exact ⟨_, rfl, rfl, rfl⟩
  | mmc3BankSelect a v => exact ⟨_, rfl, hwaits⟩
  | mmc3BankData a v => exact ⟨_, rfl, hwaits⟩
  | mmc3PrgRamProtect a v => exact ⟨_, rfl, hwaits⟩
  | mmc3IrqLatch a v => exact ⟨_, rfl, hwaits⟩
  | mmc3IrqDisable a v => exact ⟨_, rfl, hwaits⟩
  | mmc3IrqEnable a v => exact ⟨_, rfl, hwaits⟩
  | mmc3PrgRead a => exact ⟨_, rfl, hwaits⟩
  | mmc3PrgramRead a => exact ⟨_, rfl, hwaits⟩
  | mmc3Mirroring a v =>
    refine ⟨_, rfl, ?_⟩
    simpa [ReloadWaits] using hwaits
  | mmc3PrgramWrite a v =>
    refine ⟨_, rfl, .of_regs_eq ?_ hwaits⟩
    dsimp only
    split
    · rw [prgRamStore_regs]
    · rfl
  | _ => cases hkind

/-- Settles O19: the CPU transactions leave the reload waiting, and the two CHR rows hand it to the
edge detector. -/
theorem mmc3ReloadWaitsForTheNextEdge : Obligations.Mmc3ReloadWaitsForTheNextEdge := by
  refine ⟨fun s a v => ⟨_, rfl, rfl, rfl, rfl⟩, fun s a v => ⟨_, rfl, rfl⟩, ?_⟩
  intro i s hkind hcounter hreload
  by_cases hchr : ∃ a, IsMmc3Chr i a
  · obtain ⟨a, hi⟩ := hchr
    obtain ⟨t, u, hexec, hu, ht⟩ := exec_mmc3Chr hi s
    have hedge : a12Edge u a = a12Edge s a := by rw [a12Edge, hu, a12Edge]
    refine ⟨t, hexec, fun b hb hrise => ?_, fun hlow => ?_⟩
    · obtain rfl := hi.addr_unique hb
      rw [ht, edgeDetect_of_edge a u (hedge.trans hrise)]
      simp [hu, mmc3NextCounter_of_reload, hreload]
    · rw [ht, edgeDetect_of_no_edge a u (hedge.trans (hlow a hi)), hu]
      exact ⟨hcounter, hreload⟩
  · obtain ⟨t, hexec, hwaits⟩ :=
      exec_mmc3_keeps_reloadWaits hkind (not_exists.1 hchr) ⟨hcounter, hreload⟩
    exact ⟨t, hexec, fun a ha _ => absurd ⟨a, ha⟩ hchr, fun _ => hwaits⟩

end Sys2Proof.Machine
end

section
/-!
The decoder reads exactly the well-formed rows (30_encoding.md R301, decision D5): rows of one kind
and format never overlap, so the search finds the row of every well-formed instruction, and what it
finds is one. The byte form of a transaction (log entry 11) then round-trips.
-/
namespace Sys2Proof

open Sys2Proof.Machine Sys2Proof.Config

/-! ### Rows never overlap -/

/-- Two patterns fix a common bit of the address, or of the value, differently. -/
def Row.conflicts (p q : Row) : Bool :=
  (p.want ^^^ q.want) &&& (p.mask &&& q.mask) != 0 ||
    (p.dwant ^^^ q.dwant) &&& (p.dmask &&& q.dmask) != 0

/-- One operand that fits two patterns agrees with both on their common bits. -/
theorem and_mask_agree {w : Nat} {x m n p q : BitVec w} (hp : x &&& m = p) (hq : x &&& n = q) :
    (p ^^^ q) &&& (m &&& n) = 0 := by
  subst hp hq
  ext i hi
  simp
  grind

/-- A row accepts what its two patterns fix (R301). -/
theorem Row.accepts_iff (r : Row) (a : Word) (v : Byte) :
    r.accepts a v = true ↔ a &&& r.mask = r.want ∧ v &&& r.dmask = r.dwant := by
  simp [Row.accepts]

/-- Rows that conflict never accept the same transaction. -/
theorem Row.not_both_accept_of_conflicts {p q : Row} (h : p.conflicts q = true) (a : Word)
    (v : Byte) : ¬(p.accepts a v = true ∧ q.accepts a v = true) := by
  simp only [Row.accepts_iff]
  rintro ⟨⟨hp, hdp⟩, hq, hdq⟩
  simp [Row.conflicts, and_mask_agree hp hq, and_mask_agree hdp hdq] at h

theorem cpuReadRows_conflict (k : Kind) :
    (cpuReadRows k).Pairwise (fun p q => p.conflicts q = true) := by
  cases k <;> decide

theorem cpuWriteRows_conflict (k : Kind) :
    (cpuWriteRows k).Pairwise (fun p q => p.conflicts q = true) := by
  cases k <;> decide

/-- Settles O43: each list's patterns conflict pairwise, and no operand fits conflicting patterns. -/
theorem rowsOfOneKindAndFormatNeverOverlap : Obligations.RowsOfOneKindAndFormatNeverOverlap := by
  intro k a v rows hrows
  have hconflict : rows.Pairwise (fun p q => p.conflicts q = true) := by
    simp only [List.mem_cons, List.not_mem_nil, or_false] at hrows
    rcases hrows with rfl | rfl
    · exact cpuReadRows_conflict k
    · exact cpuWriteRows_conflict k
  exact hconflict.imp fun h => Row.not_both_accept_of_conflicts h a v

/-! ### A row and the instruction it builds -/

@[simp] theorem readRow_accepts (mask want : Word) (build : Word → Instr) (a : Word) :
    (readRow mask want build).accepts a 0 = fitsAddr mask want a := by
  simp [Row.accepts, readRow, fitsAddr]

@[simp] theorem writeRow_accepts (mask want : Word) (build : Word → Byte → Instr) (a : Word)
    (v : Byte) : (writeRow mask want build).accepts a v = fitsAddr mask want a := by
  simp [Row.accepts, writeRow, fitsAddr]

/-- `i` is a well-formed instruction of kind `k` whose transaction is `b`. -/
structure Instr.IsRowOf (i : Instr) (k : Kind) (b : Bus) : Prop where
  kind : i.kind = k
  wellFormed : i.wellFormed = true
  bus : i.bus = b

/-- A CPU read row builds, from an address that fits it, a well-formed instruction of its kind. -/
theorem cpuReadRows_build (k : Kind) : ∀ r ∈ cpuReadRows k, ∀ a : Word,
    r.accepts a 0 = true → (r.build a 0).IsRowOf k (.cpuRead a) := by
  cases k <;>
  · rw [cpuReadRows]
    intro r hr a h
    fin_cases hr <;> rw [readRow_accepts] at h <;> exact ⟨rfl, h, rfl⟩

/-- A CPU write row builds, from an address and a value that fit it, a well-formed instruction of
its kind. -/
theorem cpuWriteRows_build (k : Kind) : ∀ r ∈ cpuWriteRows k, ∀ (a : Word) (v : Byte),
    r.accepts a v = true → (r.build a v).IsRowOf k (.cpuWrite a v) := by
  cases k <;>
  · rw [cpuWriteRows]
    intro r hr a v h
    fin_cases hr <;> simp only [writeRow_accepts, serialRow_accepts] at h <;> exact ⟨rfl, h, rfl⟩

theorem chrReadInstr_isRowOf (k : Kind) (a : ChrAddr) :
    (chrReadInstr k a).IsRowOf k (.chrRead (a.setWidth 16)) := by
  cases k <;> exact ⟨rfl, rfl, rfl⟩

theorem chrWriteInstr_isRowOf (k : Kind) (a : ChrAddr) (v : Byte) :
    (chrWriteInstr k a v).IsRowOf k (.chrWrite (a.setWidth 16) v) := by
  cases k <;> exact ⟨rfl, rfl, rfl⟩

/-- Whatever is decoded is a well-formed instruction of the kind and is that transaction. -/
theorem isRowOf_of_decode {k : Kind} {b : Bus} {i : Instr} (h : decode k b = .ok i) :
    i.IsRowOf k b.truncated := by
  cases b with
  | cpuRead a =>
    obtain ⟨-, r, hr, haccepts, rfl⟩ := decode_cpuRead_ok k a i h
    exact cpuReadRows_build k r hr a haccepts
  | cpuWrite a v =>
    obtain ⟨-, r, hr, haccepts, rfl⟩ := decode_cpuWrite_ok k a v i h
    exact cpuWriteRows_build k r hr a v haccepts
  | chrRead a =>
    obtain rfl := Except.ok.inj h
    exact chrReadInstr_isRowOf k _
  | chrWrite a v =>
    obtain rfl := Except.ok.inj h
    exact chrWriteInstr_isRowOf k _ v

/-! ### Every well-formed instruction is found -/

/-- Every instruction is listed: the per-instruction lemmas in the order of the constructors. -/
theorem rowListed (i : Instr) : Laws.RowListed.Statement i :=
  open Laws Laws.RowListed in
  Instr.rec (motive := RowListed.Statement)
    nromPrgRead nromPrgWrite nromPrgramRead nromPrgramWrite nromChrRead nromChrWrite
    uxromBankWrite uxromPrgReadLow uxromPrgReadHigh uxromPrgramRead uxromPrgramWrite
    uxromChrRead uxromChrWrite camericaBankWrite camericaPrgReadLow camericaPrgReadHigh
    camericaPrgramRead camericaPrgramWrite camericaChrRead camericaChrWrite cnromChrBankWrite
    cnromPrgRead cnromChrRead cnromChrWrite cnromPrgramRead cnromPrgramWrite
    colorDreamsBankWrite colorDreamsPrgRead colorDreamsChrRead colorDreamsChrWrite
    colorDreamsPrgramRead colorDreamsPrgramWrite axromBankWrite axromPrgRead axromPrgramRead
    axromPrgramWrite axromChrRead axromChrWrite mmc1ResetWrite mmc1WriteControl mmc1WriteChr0
    mmc1WriteChr1 mmc1WritePrg mmc1PrgReadLow mmc1PrgReadHigh mmc1ChrRead mmc1ChrWrite
    mmc1PrgramRead mmc1PrgramWrite mmc3BankSelect mmc3BankData mmc3Mirroring mmc3PrgRamProtect
    mmc3IrqLatch mmc3IrqReload mmc3IrqDisable mmc3IrqEnable mmc3PrgRead mmc3PrgramRead
    mmc3PrgramWrite mmc3ChrRead mmc3ChrWrite mmc2PrgBank mmc2ChrFd0 mmc2ChrFe0 mmc2ChrFd1
    mmc2ChrFe1 mmc2Mirroring mmc2IgnoredWrite mmc2PrgRead mmc2ChrRead mmc2ChrWrite
    mmc2PrgramRead mmc2PrgramWrite mmc4PrgBank mmc4ChrFd0 mmc4ChrFe0 mmc4ChrFd1 mmc4ChrFe1
    mmc4Mirroring mmc4IgnoredWrite mmc4PrgRead mmc4ChrRead mmc4ChrWrite mmc4PrgramRead
    mmc4PrgramWrite mmc5AudioWrite mmc5AudioWriteHi mmc5AudioWriteTop mmc5PrgMode mmc5ChrMode
    mmc5RamProtect1 mmc5RamProtect2 mmc5ExramMode mmc5NtMap mmc5FillTile mmc5FillAttr
    mmc5PrgRamBank mmc5ChrUpper mmc5IrqTarget mmc5IrqEnable mmc5MulA mmc5MulB mmc5PrgBank
    mmc5ChrBank mmc5ChrBankB mmc5IrqStatus mmc5MulLo mmc5MulHi mmc5ExramRead mmc5ExramWrite
    mmc5PrgramRead mmc5PrgRead mmc5PrgramWrite mmc5PrgWrite mmc5ChrRead mmc5ChrWrite vrc6Prg16
    vrc6Audio9 vrc6AudioA0 vrc6AudioA1 vrc6AudioA2 vrc6AudioB0 vrc6AudioB1 vrc6AudioB2 vrc6Ctrl
    vrc6Prg8 vrc6ChrD vrc6ChrE vrc6IrqLatch vrc6IrqControl vrc6IrqAck vrc6IgnoredA003
    vrc6IgnoredF003 vrc6PrgRead vrc6PrgramRead vrc6PrgramWrite vrc6ChrRead vrc6ChrWrite
    vrc6aPrg16 vrc6aAudio9 vrc6aAudioA0 vrc6aAudioA1 vrc6aAudioA2 vrc6aAudioB0 vrc6aAudioB1
    vrc6aAudioB2 vrc6aCtrl vrc6aPrg8 vrc6aChrD vrc6aChrE vrc6aIrqLatch vrc6aIrqControl
    vrc6aIrqAck vrc6aIgnoredA003 vrc6aIgnoredF003 vrc6aPrgRead vrc6aPrgramRead vrc6aPrgramWrite
    vrc6aChrRead vrc6aChrWrite vrc7Prg0 vrc7Prg1 vrc7Prg1A4 vrc7Prg2 vrc7IgnoredWrite
    vrc7AudioIndex vrc7AudioData vrc7ChrALo vrc7ChrAHi vrc7ChrAHiA4 vrc7ChrBLo vrc7ChrBHi
    vrc7ChrBHiA4 vrc7ChrCLo vrc7ChrCHi vrc7ChrCHiA4 vrc7ChrDLo vrc7ChrDHi vrc7ChrDHiA4 vrc7Ctrl
    vrc7IrqLatch vrc7IrqLatchA4 vrc7IrqControl vrc7IrqAck vrc7IrqAckA4 vrc7PrgRead
    vrc7PrgramRead vrc7PrgramWrite vrc7ChrRead vrc7ChrWrite fdsRamRead6 fdsRamRead8 fdsRamReadC
    fdsRamWrite6 fdsRamWrite8 fdsRamWriteC fdsBiosRead fdsBiosWrite fdsTimerReloadLo
    fdsTimerReloadHi fdsTimerCtrl fdsMasterIo fdsWriteData fdsControl fdsExtOut fdsDiskStatus
    fdsReadData fdsDriveStatus fdsExtIn fdsWaveWrite fdsWaveRead fdsAudioWrite fdsAudioWriteHi
    fdsAudioWriteTop fdsChrRead fdsChrWrite i

/-- Every pattern wants an address within the contract (R405). -/
theorem cpuRows_want_above (k : Kind) :
    ∀ r ∈ cpuReadRows k ++ cpuWriteRows k, cpuBase ≤ r.want := by
  cases k <;> decide

/-- An address that fits a pattern is at least the pattern's. -/
theorem Row.want_le_of_accepts {r : Row} {a : Word} {v : Byte} (h : r.accepts a v = true) :
    r.want ≤ a := by
  rw [← (r.accepts_iff a v |>.1 h).1, BitVec.le_def, BitVec.toNat_and]
  exact Nat.and_le_left

/-- Where rows conflict pairwise, the search finds any row that accepts. -/
theorem findRow_of_mem {rows : List Row} (hrows : rows.Pairwise fun p q => p.conflicts q = true)
    {r : Row} (hr : r ∈ rows) {a : Word} {v : Byte} (haccepts : r.accepts a v = true) :
    findRow rows a v = .ok (r.build a v) := by
  induction hrows with
  | nil => cases hr
  | @cons p rows hp _ ih =>
    rw [findRow_cons]
    rcases List.mem_cons.1 hr with rfl | hmem
    · rw [if_pos haccepts]
    · have hnot : ¬p.accepts a v = true := fun h =>
        Row.not_both_accept_of_conflicts (hp r hmem) a v ⟨h, haccepts⟩
      rw [if_neg hnot, ih hmem]

/-- A CPU row accepts no address below the contract. -/
theorem not_below_of_accepts {k : Kind} {r : Row} (hr : r ∈ cpuReadRows k ++ cpuWriteRows k)
    {a : Word} {v : Byte} (h : r.accepts a v = true) : ¬a < cpuBase :=
  BitVec.not_lt.2 (BitVec.le_trans (cpuRows_want_above k r hr) (Row.want_le_of_accepts h))

/-- A CPU read row that accepts an address is what decodes it. -/
theorem decode_cpuRead_of_mem {k : Kind} {r : Row} (hr : r ∈ cpuReadRows k) {a : Word}
    (h : r.accepts a 0 = true) : decode k (.cpuRead a) = .ok (r.build a 0) := by
  rw [decode, if_neg (not_below_of_accepts (List.mem_append_left _ hr) h),
    findRow_of_mem (cpuReadRows_conflict k) hr h]

/-- A CPU write row that accepts an address and a value is what decodes them. -/
theorem decode_cpuWrite_of_mem {k : Kind} {r : Row} (hr : r ∈ cpuWriteRows k) {a : Word}
    {v : Byte} (h : r.accepts a v = true) : decode k (.cpuWrite a v) = .ok (r.build a v) := by
  rw [decode, if_neg (not_below_of_accepts (List.mem_append_right _ hr) h),
    findRow_of_mem (cpuWriteRows_conflict k) hr h]

/-- A well-formed instruction is what its own transaction decodes to. -/
theorem decode_bus {i : Instr} (hwf : i.wellFormed = true) : decode i.kind i.bus = .ok i := by
  have hlisted := rowListed i hwf
  cases hbus : i.bus with
  | cpuRead a =>
    rw [hbus] at hlisted
    obtain ⟨r, hr, haccepts, hbuild⟩ := hlisted
    rw [decode_cpuRead_of_mem hr haccepts, hbuild]
  | cpuWrite a v =>
    rw [hbus] at hlisted
    obtain ⟨r, hr, haccepts, hbuild⟩ := hlisted
    rw [decode_cpuWrite_of_mem hr haccepts, hbuild]
  | chrRead a =>
    rw [hbus] at hlisted
    exact congrArg Except.ok hlisted
  | chrWrite a v =>
    rw [hbus] at hlisted
    exact congrArg Except.ok hlisted

/-- The decoder looks at bits 12:0 of a PPU address only (R405). -/
theorem decode_truncated (k : Kind) (b : Bus) : decode k b.truncated = decode k b := by
  cases b <;> simp [Bus.truncated, decode]

/-- Settles O41: what is decoded is well-formed, and a well-formed instruction is found among rows
that never overlap. -/
theorem decodeReadsExactlyTheWellFormedRows :
    Obligations.DecodeReadsExactlyTheWellFormedRows := by
  intro k b i
  constructor
  · intro h
    obtain ⟨hkind, hwf, hbus⟩ := isRowOf_of_decode h
    exact ⟨hkind, hwf, hbus⟩
  · rintro ⟨rfl, hwf, hbus⟩
    rw [← decode_truncated, ← hbus, decode_bus hwf]

/-! ### The byte form -/

/-- A kind stands at its own place in the list of kinds. -/
theorem Kind.all_getElem?_index (k : Kind) : Kind.all[k.index]? = some k := by
  cases k <;> rfl

theorem Kind.index_lt (k : Kind) : k.index < 15 := by
  cases k <;> decide

theorem Bus.format_lt (b : Bus) : b.format < 4 := by
  cases b <;> simp [Bus.format]

/-- A transaction is what its format, address and value say. -/
theorem Bus.ofFormat_format (b : Bus) : Bus.ofFormat b.format b.addr b.value = b := by
  cases b <;> rfl

/-- The tag of a kind and format fits a byte and is not 0. -/
theorem tagOf_toNat (k : Kind) (b : Bus) : (tagOf k b).toNat = 1 + 4 * k.index + b.format := by
  have hk := k.index_lt
  have hb := b.format_lt
  rw [tagOf, BitVec.toNat_ofNat, Nat.mod_eq_of_lt (by omega)]

/-- Address, value and tag name the kind and the transaction they were taken from. -/
theorem targetOf_tagOf (k : Kind) (b : Bus) :
    targetOf b.addr b.value (tagOf k b) = .ok (k, b) := by
  have htag := tagOf_toNat k b
  have hb := b.format_lt
  have hne : tagOf k b ≠ 0 := fun h => by rw [h] at htag; simp at htag; omega
  have hdiv : (1 + 4 * k.index + b.format - 1) / 4 = k.index := by omega
  have hmod : (1 + 4 * k.index + b.format - 1) % 4 = b.format := by omega
  rw [targetOf, if_neg hne, htag, hdiv, hmod, Kind.all_getElem?_index, Bus.ofFormat_format]

/-- An address put together from its two bytes. -/
theorem word_append_bytes (a : Word) : a.extractLsb 15 8 ++ a.extractLsb 7 0 = a := by
  ext i hi
  simp
  grind

/-- Settles O42: the tag names the kind and the transaction, which decodes to the instruction. -/
theorem byteFormRoundTrips : Obligations.ByteFormRoundTrips := by
  intro i rest hwf
  have htarget : targetOfBytes (encode i ++ rest) = .ok ((i.kind, i.bus), rest) := by
    simp only [encode, List.cons_append, List.nil_append, targetOfBytes, word_append_bytes,
      targetOf_tagOf]
  simp only [decodeBytes, htarget, decode_bus hwf]

end Sys2Proof
end

section
/-!
What one instruction can do to the machine, said once (40_facade.md R411 to R413, 10_state.md R102,
R105, 60_exceptions.md R1210, R1212): the image stays, every memory keeps its size and its canonical
form, the mirroring mode moves under a mirroring write only and never on a four-screen cartridge, the
register files of the other kinds stay, and the interrupt flag is cleared by an acknowledge or raised
by an A12 edge.
-/

namespace Sys2Proof.Machine

open Sys2Proof Sys2Proof.Config

/-! ### Memories -/

/-- `m'` has the size of `m`, and is in canonical form if `m` is. -/
structure MemKept (m m' : Memory) : Prop where
  size : m'.size = m.size
  wf : m.wf → m'.wf

theorem MemKept.refl (m : Memory) : MemKept m m := ⟨rfl, id⟩

theorem MemKept.write (m : Memory) (o : Nat) (v : Byte) : MemKept m (m.write o v) :=
  ⟨m.size_write o v, m.wf_write o v⟩

theorem MemKept.prgRamStore (s : State) (b bs : Nat) (a : Word) (v : Byte) :
    MemKept s.prgRam (prgRamStore s b bs a v).prgRam := by
  rw [prgRamStore_prgRam]
  split
  · exact .refl _
  · exact .write ..

theorem MemKept.chrStore (s : State) (b bs : Nat) (a : ChrAddr) (v : Byte) :
    MemKept s.chrRam (chrStore s b bs a v).chrRam := by
  rw [chrStore_chrRam]
  split
  · exact .refl _
  · exact .write ..

/-! ### The step of an instruction -/

/-- The mirroring writes: the only instructions that can move the mirroring mode (R105). -/
def SetsMirror (i : Instr) : Prop :=
  ∃ (a : Word) (v : Byte), i ∈ ([.axromBankWrite a v, .mmc1WriteControl a v,
    .mmc1WriteChr0 a v, .mmc1WriteChr1 a v, .mmc1WritePrg a v, .mmc3Mirroring a v,
    .mmc2Mirroring a v, .mmc4Mirroring a v, .mmc5NtMap a v, .vrc6Ctrl a v, .vrc6aCtrl a v,
    .vrc7Ctrl a v, .fdsControl a v] : List Instr)

/-- No event is emitted, and the flag of the instruction's kind is cleared by an acknowledge and
kept by any other instruction (R1212). -/
structure IrqQuiet (i : Instr) (s t : State) : Prop where
  triggers : t.triggers = s.triggers
  pending : t.regs.pending i.kind = (!i.acknowledges && s.regs.pending i.kind)

/-- One event is emitted and the flag is set, by a CHR access of the MMC3 (R720, R1210). -/
structure IrqRaised (i : Instr) (s t : State) : Prop where
  kind : i.kind = .mmc3
  notCpu : i.isCpu = false
  notAck : i.acknowledges = false
  triggers : t.triggers = s.triggers + 1
  pending : t.regs.pending i.kind = true

/-- What the instruction `i` can leave of `s`, the answer apart. -/
structure InstrStep (i : Instr) (s t : State) : Prop where
  present : t.present = s.present
  image : t.image = s.image
  prgRam : MemKept s.prgRam t.prgRam
  chrRam : MemKept s.chrRam t.chrRam
  exram : MemKept s.exram t.exram
  mirror : t.mirrorMode = s.mirrorMode ∨ s.image.mirrorDefault ≠ .fourScreen ∧ SetsMirror i
  idle : t.regs.resetKind i.kind = s.regs.resetKind i.kind
  irq : IrqQuiet i s t ∨ IrqRaised i s t

section Steps

variable {i : Instr} {s u : State}

/-- A write of the kind's own registers. -/
theorem InstrStep.regs {r : RegFiles} (hidle : r.resetKind i.kind = s.regs.resetKind i.kind)
    (hpending : r.pending i.kind = (!i.acknowledges && s.regs.pending i.kind)) :
    InstrStep i s { s with regs := r } :=
  ⟨rfl, rfl, .refl _, .refl _, .refl _, .inl rfl, hidle, .inl ⟨rfl, hpending⟩⟩

/-- A register write that keeps the flag. -/
theorem InstrStep.regsQuiet {r : RegFiles} (hack : i.acknowledges = false)
    (hidle : r.resetKind i.kind = s.regs.resetKind i.kind)
    (hpending : r.pending i.kind = s.regs.pending i.kind) : InstrStep i s { s with regs := r } :=
  .regs hidle (by rw [hpending, hack]; rfl)

/-- An acknowledge (R1212). -/
theorem InstrStep.regsAck {r : RegFiles} (hack : i.acknowledges = true)
    (hidle : r.resetKind i.kind = s.regs.resetKind i.kind) (hpending : r.pending i.kind = false) :
    InstrStep i s { s with regs := r } :=
  .regs hidle (by rw [hpending, hack]; rfl)

/-- Any instruction but an acknowledge may leave the state as it is. -/
theorem InstrStep.refl (hack : i.acknowledges = false) : InstrStep i s s :=
  .regsQuiet hack rfl rfl

/-- A gated effect: what both ways can leave. -/
theorem InstrStep.ite (c : Prop) [Decidable c] {t : State} (ht : c → InstrStep i s t)
    (hu : ¬c → InstrStep i s u) : InstrStep i s (if c then t else u) := by
  split
  next h => exact ht h
  next h => exact hu h

/-- A store into PRG-RAM. -/
theorem InstrStep.storePrgRam (hack : i.acknowledges = false) (o : Nat) (v : Byte) :
    InstrStep i s (storePrgRam s o v) :=
  ⟨rfl, rfl, .write .., .refl _, .refl _, .inl rfl, rfl, .inl ⟨rfl, by rw [hack]; rfl⟩⟩

/-- A store through a PRG-RAM window (R213). -/
theorem InstrStep.prgRamStore (hack : i.acknowledges = false) (b bs : Nat) (a : Word) (v : Byte) :
    InstrStep i s (prgRamStore s b bs a v) :=
  .ite _ (fun _ => .refl hack) (fun _ => .storePrgRam hack ..)

/-- A store into the ExRAM (R921). -/
theorem InstrStep.exramWrite (hack : i.acknowledges = false) (o : Nat) (v : Byte) :
    InstrStep i s { s with exram := s.exram.write o v } :=
  ⟨rfl, rfl, .refl _, .refl _, .write .., .inl rfl, rfl, .inl ⟨rfl, by rw [hack]; rfl⟩⟩

/-- A store through a CHR window (R212). -/
theorem InstrStep.chrStore (hack : i.acknowledges = false) (b bs : Nat) (a : ChrAddr) (v : Byte) :
    InstrStep i s (chrStore s b bs a v) :=
  .ite _ (fun _ => .refl hack) (fun _ =>
    ⟨rfl, rfl, .refl _, .write .., .refl _, .inl rfl, rfl, .inl ⟨rfl, by rw [hack]; rfl⟩⟩)

/-- A mirroring write after a register write (R105). -/
theorem InstrStep.setMirror (hi : SetsMirror i) (m : Mirror) (h : InstrStep i s u) :
    InstrStep i s (setMirror m u) := by
  refine .ite _ (fun _ => h) fun hfree => ?_
  rw [h.image] at hfree
  exact ⟨h.present, h.image, h.prgRam, h.chrRam, h.exram, .inr ⟨hfree, hi⟩, h.idle,
    h.irq.imp (fun q => ⟨q.triggers, q.pending⟩)
      fun r => ⟨r.kind, r.notCpu, r.notAck, r.triggers, r.pending⟩⟩

/-- What the edge detector does to the interrupt: nothing, or one event with the flag set (R721). -/
theorem edgeDetect_irq (a : ChrAddr) (s : State) :
    (edgeDetect a s).triggers = s.triggers ∧
      (edgeDetect a s).regs.mmc3.irqPending = s.regs.mmc3.irqPending ∨
    (edgeDetect a s).triggers = s.triggers + 1 ∧
      (edgeDetect a s).regs.mmc3.irqPending = true := by
  cases hedge : a12Edge s a with
  | false =>
    rw [edgeDetect_of_no_edge a s hedge]
    exact .inl ⟨rfl, rfl⟩
  | true =>
    rw [edgeDetect_of_edge a s hedge]
    obtain ⟨-, -, hclock⟩ | ⟨-, hclock⟩ := clockIrq_cases s <;> rw [hclock]
    · exact .inr ⟨rfl, rfl⟩
    · exact .inl ⟨rfl, rfl⟩

/-- The edge detector after a quiet step of an MMC3 CHR access (R720). -/
theorem InstrStep.edgeDetect (hkind : i.kind = .mmc3) (hcpu : i.isCpu = false)
    (hack : i.acknowledges = false) (a : ChrAddr) (h : InstrStep i s u) (hregs : u.regs = s.regs)
    (htriggers : u.triggers = s.triggers) : InstrStep i s (edgeDetect a u) where
  present := (edgeDetect_present a u).trans h.present
  image := (edgeDetect_image a u).trans h.image
  prgRam := by rw [edgeDetect_prgRam]; exact h.prgRam
  chrRam := by rw [edgeDetect_chrRam]; exact h.chrRam
  exram := by rw [edgeDetect_exram]; exact h.exram
  mirror := by rw [edgeDetect_mirrorMode]; exact h.mirror
  idle := by
    rw [← h.idle, hkind, edgeDetect_eq]
    rfl
  irq := by
    obtain ⟨ht, hp⟩ | ⟨ht, hp⟩ := edgeDetect_irq a u
    · refine .inl ⟨ht.trans htriggers, ?_⟩
      rw [hregs] at hp
      rw [hkind, hack]
      exact hp
    · refine .inr ⟨hkind, hcpu, hack, ht.trans (congrArg (· + 1) htriggers), ?_⟩
      rw [hkind]
      exact hp

/-- A commit of the MMC1 port, after the port was emptied (R602 to R605). -/
theorem InstrStep.mmc1Commit (hi : SetsMirror i) (hkind : i.kind = .mmc1)
    (hack : i.acknowledges = false) (target : BitVec 2) (x : BitVec 5) {r : RegFiles}
    (hr : r.resetKind .mmc1 = s.regs.resetKind .mmc1) :
    InstrStep i s (mmc1Commit target x { s with regs := r }) := by
  have hregs (q : RegFiles) (hq : q.resetKind .mmc1 = s.regs.resetKind .mmc1) :
      InstrStep i s { s with regs := q } :=
    .regsQuiet hack (hkind ▸ hq) (by rw [hkind]; rfl)
  refine .ite _ (fun _ => .setMirror hi _ (hregs _ hr)) fun _ => ?_
  refine .ite _ (fun _ => hregs _ hr) fun _ => .ite _ (fun _ => hregs _ hr) fun _ => hregs _ hr

/-- A serial write of the MMC1 (R600). -/
theorem InstrStep.mmc1Shift (hi : SetsMirror i) (hkind : i.kind = .mmc1)
    (hack : i.acknowledges = false) (a : Word) (v : Byte) : InstrStep i s (mmc1Shift a v s) :=
  .ite _ (fun _ => .mmc1Commit hi hkind hack _ _ rfl) fun _ =>
    .regsQuiet hack (by rw [hkind]; rfl) (by rw [hkind]; rfl)

end Steps

/-- Every instruction is one such step. The last case holds the reads and the plain register writes,
which compute to the registers they leave. -/
theorem exec_step (i : Instr) (s : State) :
    ∃ t x, exec i s = .next { t with answer := x } ∧ InstrStep i s t := by
  cases i with
  | nromPrgramWrite a v | uxromPrgramWrite a v | camericaPrgramWrite a v | cnromPrgramWrite a v
  | colorDreamsPrgramWrite a v | axromPrgramWrite a v | mmc1PrgramWrite a v | mmc2PrgramWrite a v
  | mmc4PrgramWrite a v => exact ⟨_, _, rfl, .prgRamStore rfl ..⟩
  | mmc3PrgramWrite a v | mmc5PrgramWrite a v | mmc5PrgWrite a v | vrc6PrgramWrite a v
  | vrc6aPrgramWrite a v | vrc7PrgramWrite a v =>
    exact ⟨_, _, rfl, .ite _ (fun _ => .prgRamStore rfl ..) fun _ => .refl rfl⟩
  | fdsRamWrite6 a v | fdsRamWrite8 a v | fdsRamWriteC a v =>
    exact ⟨_, _, rfl, .storePrgRam rfl ..⟩
  | mmc5ExramWrite a v => exact ⟨_, _, rfl, .exramWrite rfl ..⟩
  | axromBankWrite a v | mmc3Mirroring a v | mmc2Mirroring a v | mmc4Mirroring a v | vrc6Ctrl a v
  | vrc6aCtrl a v | vrc7Ctrl a v | fdsControl a v =>
    exact ⟨_, _, rfl, .setMirror ⟨a, v, by simp⟩ _ (.regs rfl rfl)⟩
  | mmc5NtMap a v =>
    refine ⟨_, _, rfl, ?_⟩
    dsimp only
    split
    · exact .setMirror ⟨a, v, by simp⟩ _ (.regs rfl rfl)
    · exact .regs rfl rfl
  | mmc1WriteControl a v | mmc1WriteChr0 a v | mmc1WriteChr1 a v | mmc1WritePrg a v =>
    exact ⟨_, _, rfl, .mmc1Shift ⟨a, v, by simp⟩ rfl rfl ..⟩
  | fdsTimerCtrl a v | fdsMasterIo a v =>
    exact ⟨_, _, rfl, .ite _ (fun hclear => .regsAck (beq_iff_eq.2 hclear) rfl rfl)
      fun hset => .regsQuiet (beq_eq_false_iff_ne.2 hset) rfl rfl⟩
  | nromChrWrite a v | uxromChrWrite a v | camericaChrWrite a v | cnromChrWrite a v
  | colorDreamsChrWrite a v | axromChrWrite a v | mmc1ChrWrite a v | mmc2ChrWrite a v
  | mmc4ChrWrite a v | mmc5ChrWrite a v | vrc6ChrWrite a v | vrc6aChrWrite a v | vrc7ChrWrite a v
  | fdsChrWrite a v => exact ⟨_, _, rfl, .chrStore rfl ..⟩
  | mmc3ChrRead a => exact ⟨_, _, rfl, .edgeDetect rfl rfl rfl a (.refl rfl) rfl rfl⟩
  | mmc3ChrWrite a v =>
    exact ⟨_, _, rfl, .edgeDetect rfl rfl rfl a (.chrStore rfl ..) (chrStore_regs ..)
      (chrStore_triggers ..)⟩
  | _ => exact ⟨_, _, rfl, .regs rfl rfl⟩

/-- Settles O57: a step moves the mirroring mode under a mirroring write only, and never on a
four-screen cartridge. -/
theorem fourScreenCartridgesKeepTheirMirroring :
    Obligations.FourScreenCartridgesKeepTheirMirroring := by
  intro i s
  obtain ⟨t, x, hexec, hstep⟩ := exec_step i s
  refine ⟨_, hexec, fun hfour => ?_, ?_⟩
  · obtain hkept | ⟨hfree, -⟩ := hstep.mirror
    · exact hkept
    · exact absurd hfour hfree
  · exact hstep.mirror.imp_right And.right

/-! ### The interrupt level over an instruction of the active kind -/

section Level

variable {i : Instr} {s t : State}

theorem InstrStep.level_eq (h : InstrStep i s t) (hkind : i.kind = s.image.kind) :
    level t = t.regs.pending i.kind := by
  rw [level, h.image, hkind]

/-- An acknowledge clears the level, and nothing else does (R1212). -/
theorem InstrStep.level_cleared_iff (h : InstrStep i s t) (hkind : i.kind = s.image.kind) :
    (i.acknowledges = true → level t = false) ∧
    (i.acknowledges = false → level s = true → level t = true) := by
  rw [h.level_eq hkind, level, ← hkind]
  obtain ⟨-, hpending⟩ | ⟨-, -, hack, -, hpending⟩ := h.irq
  · rw [hpending]
    exact ⟨fun hack => by rw [hack]; rfl, fun hack hs => by rw [hack, hs]; rfl⟩
  · exact ⟨fun h => absurd (h.symm.trans hack) (by decide), fun _ _ => hpending⟩

/-- A CPU transaction raises nothing (R1211). -/
theorem InstrStep.noRise (h : InstrStep i s t) (hkind : i.kind = s.image.kind)
    (hcpu : i.isCpu = true) : NoRise s t := by
  rw [NoRise, h.level_eq hkind, level, ← hkind]
  obtain ⟨htriggers, hpending⟩ | ⟨-, hnot, -⟩ := h.irq
  · rw [hpending]
    exact ⟨htriggers, fun hboth => (Bool.and_eq_true_iff.1 hboth).2⟩
  · exact absurd (hcpu.symm.trans hnot) (by decide)

/-- The acknowledges are CPU writes. -/
theorem isCpu_of_acknowledges : i.acknowledges = true → i.isCpu = true := by
  cases i with
  | mmc3IrqDisable | vrc6IrqControl | vrc6IrqAck | vrc6aIrqControl | vrc6aIrqAck | vrc7IrqControl
  | vrc7IrqAck | vrc7IrqAckA4 | fdsTimerCtrl | fdsMasterIo => exact fun _ => rfl
  | _ => exact fun h => Bool.noConfusion h

/-- A CHR transaction raises at most one interrupt, on the MMC3 (R720, R1211). -/
theorem InstrStep.risesAtMost (h : InstrStep i s t) (hkind : i.kind = s.image.kind)
    (hcpu : i.isCpu = false) : RisesAtMost 1 [.mmc3] s t := by
  have hack : i.acknowledges = false := by
    by_contra hack
    exact absurd ((isCpu_of_acknowledges (by simpa using hack)).symm.trans hcpu) (by decide)
  rw [RisesAtMost, h.level_eq hkind, level, ← hkind]
  obtain ⟨htriggers, hpending⟩ | ⟨hmmc3, -, -, htriggers, hpending⟩ := h.irq
  · rw [hpending, hack]
    exact .inl ⟨htriggers, rfl⟩
  · exact .inr ⟨by omega, by omega, hpending, by simp [hmmc3]⟩

end Level

end Sys2Proof.Machine
end

section
/-!
What a request leaves of the invariant and of the interrupt (40_facade.md, 60_exceptions.md R1210 to
R1213, 70_reset_and_hazards.md): one lemma per control operation, next to the step of an instruction,
then the two statements over every request and over every step.
-/

namespace Sys2Proof

open Sys2Proof.Machine Sys2Proof.Config

/-! ### The scanline hook -/

/-- A scanline call of the VRC counter does not touch the flag (R1020). -/
@[simp] theorem vrcCount_pending (q : VrcIrq) : (vrcCount q).pending = q.pending := by
  unfold vrcCount
  split <;> rfl

/-- `r` are registers the hook of kind `k` can leave before it raises: those of the other kinds and
the flag are as in `q`. -/
structure HookRegs (k : Kind) (q r : RegFiles) : Prop where
  idle : r.resetKind k = q.resetKind k
  pending : r.pending k = q.pending k

/-- Everything the scanline hook can do (R414): FDS ticks; or a register update, with at most one
interrupt raised after it on MMC5 and the VRC kinds. -/
theorem scanlineHook_cases (n : Word) (s : State) :
    (s.image.kind = .fds ∧ scanlineHook n s = fdsTicks s.image.fdsTicks s) ∨
    ∃ r, HookRegs s.image.kind s.regs r ∧
      (scanlineHook n s = { s with regs := r } ∨
        s.image.kind ∈ ([.mmc5, .vrc6, .vrc6a, .vrc7] : List Kind) ∧
          scanlineHook n s = raiseIrq s.image.kind { s with regs := r }) := by
  have raised (b : Bool) {k : Kind} {t : State}
      (hk : k ∈ ([.mmc5, .vrc6, .vrc6a, .vrc7] : List Kind)) :
      (if b then raiseIrq k t else t) = t ∨
        k ∈ ([.mmc5, .vrc6, .vrc6a, .vrc7] : List Kind) ∧
          (if b then raiseIrq k t else t) = raiseIrq k t := by
    cases b
    · exact .inl rfl
    · exact .inr ⟨hk, rfl⟩
  unfold scanlineHook
  cases hk : s.image.kind with
  | fds => exact .inl ⟨rfl, rfl⟩
  | mmc5 =>
    refine .inr ⟨s.regs, ⟨rfl, rfl⟩, ?_⟩
    dsimp only
    rw [mmc5Scanline]
    split
    · exact .inr ⟨by decide, rfl⟩
    · exact .inl rfl
  | vrc6 => exact .inr ⟨{ s.regs with vrc6.irq := vrcCount s.regs.vrc6.irq },
      ⟨rfl, vrcCount_pending _⟩, raised _ (by decide)⟩
  | vrc6a => exact .inr ⟨{ s.regs with vrc6.irq := vrcCount s.regs.vrc6.irq },
      ⟨rfl, vrcCount_pending _⟩, raised _ (by decide)⟩
  | vrc7 => exact .inr ⟨{ s.regs with vrc7.irq := vrcCount s.regs.vrc7.irq },
      ⟨rfl, vrcCount_pending _⟩, raised _ (by decide)⟩
  | _ => exact .inr ⟨s.regs, ⟨rfl, rfl⟩, .inl rfl⟩

/-- An FDS tick moves no register file but the FDS's (R1130). -/
theorem fdsTick_resetKind (s : State) :
    (fdsTick s).regs.resetKind .fds = s.regs.resetKind .fds := by
  obtain ⟨-, h⟩ | ⟨-, h⟩ | ⟨-, -, h⟩ | ⟨-, -, h⟩ := fdsTick_cases s <;> rw [h] <;> rfl

theorem fdsTicks_resetKind (n : Nat) (s : State) :
    (fdsTicks n s).regs.resetKind .fds = s.regs.resetKind .fds := by
  induction n generalizing s with
  | zero => rfl
  | succ n ih => rw [fdsTicks, ih, fdsTick_resetKind]

/-- The interrupt flag belongs to the kind's own file. -/
@[simp] theorem setPending_resetKind (k : Kind) (b : Bool) (r : RegFiles) :
    (r.setPending k b).resetKind k = r.resetKind k := by
  cases k <;> rfl

/-! ### The invariant -/

/-- Answer, pending requests and the count of events are no part of the invariant. -/
theorem Inv.relabel {s : State} (h : Inv s) (x : Answer) (rs : List Request) (n : Nat) :
    Inv { s with answer := x, requests := rs, triggers := n } :=
  ⟨h.prgRom, h.chrRom, h.prgRam, h.chrRam, h.exram, h.prgRomPresent, h.chrOne, h.exramOne, h.fdsRam,
    h.factoryKind, h.fourScreen, h.ticks, h.othersAtReset⟩

/-- The invariant is kept where the image stays, memories keep size and canonical form, a four-screen
mode stays, and only the active kind's registers move. -/
theorem Inv.of_kept {s t : State} (h : Inv s) (hpresent : t.present = s.present)
    (himage : t.image = s.image) (hprg : MemKept s.prgRam t.prgRam)
    (hchr : MemKept s.chrRam t.chrRam) (hex : MemKept s.exram t.exram)
    (hmirror : s.image.mirrorDefault = .fourScreen → s.mirrorMode = .fourScreen →
      t.mirrorMode = .fourScreen)
    (hidle : t.regs.resetKind s.image.kind = s.regs.resetKind s.image.kind) : Inv t where
  prgRom := himage ▸ h.prgRom
  chrRom := himage ▸ h.chrRom
  prgRam := hprg.wf h.prgRam
  chrRam := hchr.wf h.chrRam
  exram := hex.wf h.exram
  prgRomPresent := by rw [hpresent, himage]; exact h.prgRomPresent
  chrOne := by rw [hpresent, himage, hchr.size]; exact h.chrOne
  exramOne := by rw [hpresent, himage, hex.size]; exact h.exramOne
  fdsRam := by rw [hpresent, himage, hprg.size]; exact h.fdsRam
  factoryKind := by rw [hpresent, himage]; exact h.factoryKind
  fourScreen := by
    rw [himage]
    exact fun hfour => hmirror hfour (h.fourScreen hfour)
  ticks := himage ▸ h.ticks
  othersAtReset := by rw [himage, hidle, h.othersAtReset]

/-- A write of the active kind's registers keeps the invariant. -/
theorem Inv.regs {s : State} (h : Inv s) {r : RegFiles}
    (hidle : r.resetKind s.image.kind = s.regs.resetKind s.image.kind) :
    Inv { s with regs := r } :=
  h.of_kept rfl rfl (.refl _) (.refl _) (.refl _) (fun _ => id) hidle

/-- An instruction of the active kind keeps the invariant. -/
theorem Inv.instrStep {s t : State} {i : Instr} (h : Inv s) (hstep : InstrStep i s t)
    (hkind : i.kind = s.image.kind) : Inv t := by
  refine h.of_kept hstep.present hstep.image hstep.prgRam hstep.chrRam hstep.exram
    (fun hfour hmode => ?_) (hkind ▸ hstep.idle)
  obtain hkept | ⟨hfree, -⟩ := hstep.mirror
  · rw [hkept, hmode]
  · exact absurd hfour hfree

/-- Settles O60: no cartridge is present, every memory is absent and every file is at reset. -/
theorem resetStateMeetsTheInvariant : Obligations.ResetStateMeetsTheInvariant where
  prgRom := Memory.wf_zeroed 0
  chrRom := Memory.wf_zeroed 0
  prgRam := Memory.wf_zeroed 0
  chrRam := Memory.wf_zeroed 0
  exram := Memory.wf_zeroed 0
  prgRomPresent := nofun
  chrOne := nofun
  exramOne := nofun
  fdsRam := nofun
  factoryKind := nofun
  fourScreen := nofun
  ticks := le_rfl
  othersAtReset := rfl

/-- What a destroyed cartridge leaves meets the invariant (log entry 15). -/
theorem inv_unloaded (s : State) : Inv (unloaded s) :=
  resetStateMeetsTheInvariant.relabel _ _ _

/-- A new cartridge meets the invariant (R403, R190, R1303). -/
theorem inv_newCartridge {k : Kind} {m : Metadata} (s : State) (hrom : m.prgRom.size ≠ 0)
    (hfactory : factory m.mapperNumber = some k) : Inv (newCartridge k m s) where
  prgRom := Memory.wf_ofCells ..
  chrRom := Memory.wf_ofCells ..
  prgRam := Memory.wf_zeroed _
  chrRam := Memory.wf_zeroed _
  exram := Memory.wf_zeroed _
  prgRomPresent _ := by simpa [newCartridge] using hrom
  chrOne _ := by simp [newCartridge]
  exramOne _ := rfl
  fdsRam _ hk := by
    obtain rfl : k = .fds := hk
    simp only [newCartridge, Memory.size_zeroed, constructedRamSize]
    split <;> simp_all
  factoryKind _ := hfactory
  fourScreen := id
  ticks := Nat.le_max_left ..
  othersAtReset := by cases k <;> rfl

/-- Construction ends in a state that meets the invariant, whatever was there before (R403). -/
theorem inv_of_construct {m : Metadata} {s t : State} (h : construct m s = .next t) : Inv t := by
  obtain ⟨-, hc⟩ | ⟨-, -, hc⟩ | ⟨k, -, -, -, -, hc⟩ | ⟨k, hrom, hfactory, -, hc⟩ :=
    construct_cases m s
  case inr.inr.inr =>
    obtain rfl : newCartridge k m s = t := Host.Outcome.next.inj (hc.symm.trans h)
    exact inv_newCartridge s hrom hfactory
  all_goals
    rw [constructFailed_eq] at hc
    obtain rfl := Host.Outcome.next.inj (hc.symm.trans h)
    exact (inv_unloaded s).relabel _ _ _

/-- The scanline hook keeps the invariant. -/
theorem Inv.scanlineHook {s : State} (h : Inv s) (n : Word) : Inv (scanlineHook n s) := by
  obtain ⟨hk, hhook⟩ | ⟨r, hr, hhook | ⟨-, hhook⟩⟩ := scanlineHook_cases n s <;> rw [hhook]
  · refine h.of_kept (by simp) (by simp) ?_ ?_ ?_ (by simp) (hk ▸ fdsTicks_resetKind ..)
    · rw [fdsTicks_prgRam]
      exact .refl _
    · rw [fdsTicks_chrRam]
      exact .refl _
    · rw [fdsTicks_exram]
      exact .refl _
  · exact h.regs hr.idle
  · have hidle := (setPending_resetKind s.image.kind true r).trans hr.idle
    exact (h.regs hidle).relabel s.answer s.requests (s.triggers + 1)

/-- A load keeps the invariant: the bytes it puts in fill PRG-RAM exactly (R421). -/
theorem Inv.hostLoad {s t : State} (h : Inv s) {d : Option (List Byte)}
    (hload : hostLoad d s = .next t) : Inv t := by
  unfold Machine.hostLoad at hload
  split at hload
  next => cases hload; exact h.relabel ..
  next =>
    split at hload
    next => cases hload; exact h.relabel ..
    next bytes =>
      split at hload
      next hsize =>
        cases hload
        exact h.of_kept rfl rfl ⟨hsize, fun _ => Memory.wf_ofBytes bytes⟩ (.refl _) (.refl _)
          (fun _ => id) rfl
      next => cases hload; exact h.relabel ..

/-- A save keeps the invariant: it reads PRG-RAM (R420). -/
theorem Inv.hostSave {s t : State} (h : Inv s) {ioOk : Bool}
    (hsave : hostSave ioOk s = .next t) : Inv t := by
  have hclean : Inv { s with sramDirty := false } :=
    h.of_kept rfl rfl (.refl _) (.refl _) (.refl _) (fun _ => id) rfl
  unfold Machine.hostSave at hsave
  split_ifs at hsave <;> cases hsave
  · exact h.relabel ..
  · exact h.relabel ..
  · exact hclean.relabel ..

/-- A reset keeps the invariant: the mirroring mode is the default, and only the active kind's file
moves (R1300). -/
theorem Inv.resetCartridge {s t : State} (h : Inv s) (hreset : resetCartridge s = .next t) :
    Inv t := by
  rw [resetCartridge_eq] at hreset
  cases hreset
  exact h.of_kept rfl rfl (.refl _) (.refl _) (.refl _) (fun hfour _ => hfour)
    (resetKind_resetKind ..)

/-- A bus transaction keeps the invariant: it is an instruction of the active kind, or unmapped. -/
theorem Inv.serveBus {s t : State} (h : Inv s) {b : Bus} (hserve : serveBus b s = .next t) :
    Inv t := by
  cases hdec : decode s.image.kind b with
  | ok i =>
    obtain ⟨u, x, hexec, hstep⟩ := exec_step i s
    rw [serveBus_of_ok _ _ _ hdec, hexec] at hserve
    cases hserve
    exact (h.instrStep hstep (isRowOf_of_decode hdec).kind).relabel ..
  | error e =>
    rw [serveBus_of_error _ _ _ hdec] at hserve
    obtain hu | hu := unmapped_cases b s <;>
      · rw [hu] at hserve
        cases hserve
        exact h.relabel ..

/-- Every request that is served keeps the invariant. -/
theorem Inv.serve {s t : State} (h : Inv s) {r : Request} (hserve : serve r s = .next t) :
    Inv t := by
  cases r with
  | bus b => exact h.serveBus hserve
  | scanline n =>
    obtain rfl := Host.Outcome.next.inj hserve
    exact (h.scanlineHook n).relabel ..
  | reset => exact h.resetCartridge hserve
  | irqState =>
    obtain rfl := Host.Outcome.next.inj hserve
    exact h.relabel ..
  | irqClear =>
    obtain rfl := Host.Outcome.next.inj hserve
    exact (h.regs (setPending_resetKind ..)).relabel ..
  | construct m => exact inv_of_construct hserve
  | hostSave ioOk => exact h.hostSave hserve
  | hostLoad d => exact h.hostLoad hserve
  | shutdown =>
    obtain rfl := Host.Outcome.next.inj hserve
    exact (inv_unloaded s).relabel ..

/-- A request that is answered was served: with a cartridge every one is, without one only construct
is answered, which serving does not tell apart (R402, R418). -/
theorem serve_of_handle {r : Request} {s t : State} (h : handle r s = .next t) :
    serve r s = .next t := by
  cases hpresent : s.present with
  | true => rwa [← handle_present r s hpresent]
  | false =>
    obtain ⟨m, rfl, -⟩ | ⟨-, hfault⟩ := handle_absent r s hpresent
    · exact h
    · rw [hfault] at h
      cases h

/-- Settles O59: a step serves the oldest request, or does nothing. -/
theorem stepKeepsTheInvariant : Obligations.StepKeepsTheInvariant := by
  intro s t h hstep
  unfold step serveNext at hstep
  split at hstep
  next => exact Host.Outcome.next.inj hstep ▸ h
  next r rest _ => exact (h.relabel s.answer rest s.triggers).serve (serve_of_handle hstep)

/-! ### The interrupt over a request -/

/-- Construction emits nothing and leaves nothing pending (R403). -/
theorem construct_quiet {m : Metadata} {s t : State} (h : construct m s = .next t) :
    t.triggers = s.triggers ∧ level t = false := by
  obtain ⟨-, hc⟩ | ⟨-, -, hc⟩ | ⟨k, -, -, -, -, hc⟩ | ⟨k, -, -, -, hc⟩ := construct_cases m s
  case inr.inr.inr =>
    obtain rfl : newCartridge k m s = t := Host.Outcome.next.inj (hc.symm.trans h)
    exact ⟨rfl, pending_reset k⟩
  all_goals
    rw [constructFailed_eq] at hc
    obtain rfl := Host.Outcome.next.inj (hc.symm.trans h)
    exact ⟨rfl, rfl⟩

/-- The host operations touch neither the flag nor the events (R420, R421). -/
theorem hostSave_quiet {ioOk : Bool} {s t : State} (h : hostSave ioOk s = .next t) :
    t.triggers = s.triggers ∧ level t = level s := by
  unfold hostSave at h
  split_ifs at h <;> cases h <;> exact ⟨rfl, rfl⟩

theorem hostLoad_quiet {d : Option (List Byte)} {s t : State} (h : hostLoad d s = .next t) :
    t.triggers = s.triggers ∧ level t = level s := by
  unfold hostLoad at h
  cases d <;> dsimp only at h <;> split_ifs at h <;> cases h <;> exact ⟨rfl, rfl⟩

/-- The flag cleared and put back. -/
theorem setPending_setPending_pending (k : Kind) (r : RegFiles) :
    (r.setPending k false).setPending k (r.pending k) = r := by
  cases k <;> rfl

/-- An acknowledge of the active kind leaves its flag clear (R417). -/
theorem level_ackIrq (s : State) : level (ackIrq s.image.kind s) = false := by
  rw [level, ackIrq_image, ackIrq_regs, pending_setPending, Bool.and_false]

/-- The scanline hook raises on the five kinds with a scanline unit: at most once on MMC5 and the VRC
kinds, at most once a tick on the FDS (R414, R1211). -/
theorem scanlineHook_rises (n : Word) (s : State) :
    RisesAtMost (if s.image.kind = .fds then s.image.fdsTicks else 1)
      [.mmc5, .vrc6, .vrc6a, .vrc7, .fds] s (scanlineHook n s) := by
  obtain ⟨hk, hhook⟩ | ⟨r, hr, hhook | ⟨hmem, hhook⟩⟩ := scanlineHook_cases n s <;> rw [hhook]
  · obtain ⟨himage, hle, hmost, hflag⟩ := fdsTicks_rises s.image.fdsTicks s
    have hlevel (t : State) (ht : t.image = s.image) : level t = t.regs.fds.irqPending := by
      rw [level, ht, hk]
      rfl
    rw [RisesAtMost, hlevel _ himage, hlevel s rfl, hflag, if_pos hk]
    by_cases hrise : s.triggers < (fdsTicks s.image.fdsTicks s).triggers
    · exact .inr ⟨hrise, hmost, by simp [hrise], by simp [hk]⟩
    · exact .inl ⟨by omega, by simp [hrise]⟩
  · exact .inl ⟨rfl, hr.pending⟩
  · have hkinds : ∀ k ∈ ([.mmc5, .vrc6, .vrc6a, .vrc7] : List Kind), hasIrq k = true ∧
        k ∈ ([.mmc5, .vrc6, .vrc6a, .vrc7, .fds] : List Kind) ∧ k ≠ .fds := by decide
    obtain ⟨hhas, hlisted, hfds⟩ := hkinds _ hmem
    rw [if_neg hfds]
    refine .inr ⟨Nat.lt_succ_self _, le_rfl, ?_, hlisted⟩
    rw [level, raiseIrq_image, raiseIrq_regs, pending_setPending, hhas]
    rfl

/-- Where the level is the same or the interrupt pending, a pending interrupt stays pending. -/
theorem RisesAtMost.level_kept {n : Nat} {kinds : List Kind} {s t : State}
    (h : RisesAtMost n kinds s t) (hs : level s = true) : level t = true := by
  obtain ⟨-, hlevel⟩ | ⟨-, -, hlevel, -⟩ := h
  · rw [hlevel, hs]
  · exact hlevel

/-- What a served request does to the flag: those that end it leave it clear, the others keep it. -/
theorem serve_level {r : Request} {s t : State} (hserve : serve r s = .next t) :
    (r.endsPending s.image.kind = true → level t = false) ∧
    (r.endsPending s.image.kind = false → level s = true → level t = true) := by
  cases r with
  | bus b =>
    change serveBus b s = .next t at hserve
    cases hdec : decode s.image.kind b with
    | ok i =>
      obtain ⟨u, x, hexec, hstep⟩ := exec_step i s
      rw [serveBus_of_ok _ _ _ hdec, hexec] at hserve
      cases hserve
      rw [Request.endsPending, hdec]
      exact hstep.level_cleared_iff (isRowOf_of_decode hdec).kind
    | error e =>
      rw [Request.endsPending, hdec]
      refine ⟨nofun, fun _ => ?_⟩
      rw [serveBus_of_error _ _ _ hdec] at hserve
      obtain hu | hu := unmapped_cases b s <;>
        · rw [hu] at hserve
          cases hserve
          exact id
  | scanline n =>
    obtain rfl := Host.Outcome.next.inj hserve
    exact ⟨nofun, fun _ => (scanlineHook_rises n s).level_kept⟩
  | reset =>
    obtain rfl := Host.Outcome.next.inj hserve
    exact ⟨fun _ => pending_resetKind .., nofun⟩
  | irqState =>
    obtain rfl := Host.Outcome.next.inj hserve
    exact ⟨nofun, fun _ => id⟩
  | irqClear =>
    obtain rfl := Host.Outcome.next.inj hserve
    exact ⟨fun _ => level_ackIrq s, nofun⟩
  | construct m => exact ⟨fun _ => (construct_quiet hserve).2, nofun⟩
  | hostSave ioOk => exact ⟨nofun, fun _ => (hostSave_quiet hserve).2.trans⟩
  | hostLoad d => exact ⟨nofun, fun _ => (hostLoad_quiet hserve).2.trans⟩
  | shutdown =>
    obtain rfl := Host.Outcome.next.inj hserve
    exact ⟨fun _ => rfl, nofun⟩

/-- Settles O55: over an instruction and over a request the flag is cleared exactly where the
statement says, and `irq_clear` writes nothing else. -/
theorem pendingIsClearedOnlyByAcknowledges : Obligations.PendingIsClearedOnlyByAcknowledges := by
  refine ⟨fun i s t hkind hexec => ?_, fun r s t hhandle => ?_, fun s => ?_⟩
  · obtain ⟨u, x, hnext, hstep⟩ := exec_step i s
    rw [hnext] at hexec
    cases hexec
    exact hstep.level_cleared_iff hkind
  · exact serve_level (serve_of_handle hhandle)
  · refine ⟨_, rfl, level_ackIrq s, ?_⟩
    exact congrArg (fun r => { s with regs := r }) (setPending_setPending_pending s.image.kind s.regs)

/-- What a bus transaction does to the events: a CPU one emits none, a CHR one at most one, on the
MMC3 (R1210, R1211). -/
theorem serveBus_rises {b : Bus} {s t : State} (hserve : serveBus b s = .next t) :
    match b with
    | .cpuRead _ => NoRise s t
    | .cpuWrite _ _ => NoRise s t
    | .chrRead _ => RisesAtMost 1 [.mmc3] s t
    | .chrWrite _ _ => RisesAtMost 1 [.mmc3] s t := by
  cases hdec : decode s.image.kind b with
  | ok i =>
    obtain ⟨u, x, hexec, hstep⟩ := exec_step i s
    rw [serveBus_of_ok _ _ _ hdec, hexec] at hserve
    cases hserve
    obtain ⟨hkind, -, hbus⟩ := isRowOf_of_decode hdec
    cases b with
    | cpuRead a | cpuWrite a v => exact hstep.noRise hkind (by rw [Instr.isCpu, hbus]; rfl)
    | chrRead a | chrWrite a v => exact hstep.risesAtMost hkind (by rw [Instr.isCpu, hbus]; rfl)
  | error e =>
    have hquiet : t.triggers = s.triggers ∧ level t = level s := by
      rw [serveBus_of_error _ _ _ hdec] at hserve
      obtain hu | hu := unmapped_cases b s <;>
        · rw [hu] at hserve
          cases hserve
          exact ⟨rfl, rfl⟩
    cases b with
    | cpuRead a | cpuWrite a v => exact ⟨hquiet.1, hquiet.2.symm.trans⟩
    | chrRead a | chrWrite a v => exact .inl hquiet

/-- Settles O56: an instruction steps as its format allows, and every request is a bus transaction,
the scanline hook, or an operation that leaves the events alone. -/
theorem interruptsRiseOnlyInChrOrScanlineTransactions :
    Obligations.InterruptsRiseOnlyInChrOrScanlineTransactions := by
  refine ⟨fun i s t hkind hexec => ?_, fun r s t hhandle => ?_⟩
  · obtain ⟨u, x, hnext, hstep⟩ := exec_step i s
    rw [hnext] at hexec
    cases hexec
    exact ⟨hstep.noRise hkind, hstep.risesAtMost hkind⟩
  have hserve := serve_of_handle hhandle
  have ended (h : t.triggers = s.triggers) (hlevel : level t = false) : NoRise s t :=
    ⟨h, fun hup => absurd (hup.symm.trans hlevel) (by decide)⟩
  cases r with
  | bus b =>
    have hrises := serveBus_rises hserve
    cases b <;> exact hrises
  | scanline n =>
    obtain rfl := Host.Outcome.next.inj hserve
    exact scanlineHook_rises n s
  | reset =>
    obtain rfl := Host.Outcome.next.inj hserve
    exact ended rfl (pending_resetKind ..)
  | irqState =>
    obtain rfl := Host.Outcome.next.inj hserve
    exact ⟨rfl, id⟩
  | irqClear =>
    obtain rfl := Host.Outcome.next.inj hserve
    exact ended rfl (level_ackIrq s)
  | construct m => exact ended (construct_quiet hserve).1 (construct_quiet hserve).2
  | hostSave ioOk => exact ⟨(hostSave_quiet hserve).1, (hostSave_quiet hserve).2.symm.trans⟩
  | hostLoad d => exact ⟨(hostLoad_quiet hserve).1, (hostLoad_quiet hserve).2.symm.trans⟩
  | shutdown =>
    obtain rfl := Host.Outcome.next.inj hserve
    exact ended rfl rfl

end Sys2Proof
end

section
/-!
Serving a request (40_facade.md), construction and reset written out, the memories a host saves and
loads, and the bank arithmetic (20_memory.md R210 to R214).
-/

namespace Sys2Proof

open Sys2Proof.Machine Sys2Proof.Config

/-! ### Memories -/

/-- Where no cell stands, the byte is 0 (R190). -/
theorem cellAt_of_no_cell {l : List Host.Cell} {o : Nat} (h : ∀ c ∈ l, c.1 ≠ o) :
    cellAt l o = 0 := by
  induction l with
  | nil => rfl
  | cons c l ih =>
    obtain ⟨p, v⟩ := c
    obtain ⟨hp, hl⟩ := List.forall_mem_cons.1 h
    rw [cellAt, if_neg hp, ih hl]

/-- Beyond the end of a canonical memory every byte reads 0. -/
theorem Memory.read_of_size_le {m : Memory} (hwf : m.wf) {o : Nat} (h : m.size ≤ o) :
    m.read o = 0 :=
  cellAt_of_no_cell fun c hc => by
    obtain ⟨hlt, -⟩ := hwf.2 c hc
    omega

/-- Saved bytes loaded back are the memory they were saved from (R420, R421). -/
theorem Memory.ofBytes_bytes {m : Memory} (hwf : m.wf) : Memory.ofBytes m.bytes = m := by
  refine Memory.eq_of_read _ _ (Memory.wf_ofBytes _) hwf m.length_bytes fun o => ?_
  rw [Memory.read_ofBytes]
  by_cases ho : o < m.size
  · rw [m.getElem?_bytes o ho, Option.getD_some]
  · rw [Memory.read_of_size_le hwf (by omega), List.getElem?_eq_none (by rw [m.length_bytes]; omega),
      Option.getD_none]

/-- Writing sorted cells into a memory puts each byte at its own offset and leaves the others. -/
theorem Memory.read_foldl_write {cells : List Host.Cell} {m : Memory} (o : Nat)
    (hsorted : cells.Pairwise (fun c d => c.1 < d.1))
    (hcells : ∀ c ∈ cells, c.1 < m.size ∧ c.2 ≠ 0) :
    (cells.foldl (fun m c => m.write c.1 c.2) m).read o =
      if cellAt cells o = 0 then m.read o else cellAt cells o := by
  induction hsorted generalizing m with
  | nil => rfl
  | @cons c cells hlt _ ih =>
    obtain ⟨⟨hsize, hne⟩, hrest⟩ := List.forall_mem_cons.1 hcells
    rw [List.foldl_cons, ih (by simpa using hrest), m.read_write c.1 o c.2 hsize, cellAt]
    by_cases ho : c.1 = o
    · rw [if_pos ho, if_neg hne, if_pos ho.symm, cellAt_above cells o (ho ▸ hlt), if_pos rfl]
    · rw [if_neg ho, if_neg (Ne.symm ho)]

/-- The cells of a canonical memory build that memory again (log entry 9). -/
theorem Memory.ofCells_self {m : Memory} (hwf : m.wf) : Memory.ofCells m.size m.cells = m := by
  refine Memory.eq_of_read _ _ (Memory.wf_ofCells ..) hwf (Memory.size_ofCells ..) fun o => ?_
  rw [Memory.ofCells, Memory.read_foldl_write (m := Memory.zeroed m.size) o hwf.1 hwf.2,
    Memory.read_zeroed]
  split
  next h => exact h.symm
  next => rfl

/-! ### Host operations -/

theorem hostSave_no_battery {s : State} (h : s.image.hasBattery = false) (ioOk : Bool) :
    hostSave ioOk s = .next { s with answer := .ok none } := if_pos h

theorem hostLoad_no_battery {s : State} (h : s.image.hasBattery = false)
    (d : Option (List Byte)) : hostLoad d s = .next { s with answer := .ok none } := if_pos h

theorem hostSave_battery {s : State} (h : s.image.hasBattery = true) (ioOk : Bool) :
    hostSave ioOk s =
      if ioOk = false then .next { s with answer := .errIo }
      else .next { s with sramDirty := false, answer := .ok (some s.prgRam.bytes) } := by
  rw [hostSave, if_neg (by simp [h])]

theorem hostLoad_battery_none {s : State} (h : s.image.hasBattery = true) :
    hostLoad none s = .next { s with answer := .errIo } := by
  rw [hostLoad, if_neg (by simp [h])]

theorem hostLoad_battery_some {s : State} (h : s.image.hasBattery = true) (d : List Byte) :
    hostLoad (some d) s =
      if d.length = s.prgRam.size then
        .next { s with prgRam := Memory.ofBytes d, sramDirty := false, answer := .ok none }
      else .next { s with answer := .errIo } := by
  rw [hostLoad, if_neg (by simp [h])]

/-- Settles O58: the saved bytes are the memory's, and a canonical memory is determined by them. -/
theorem savedRamLoadsBackExactly : Obligations.SavedRamLoadsBackExactly := by
  refine ⟨fun s u hwf hs hu hsize => ?_, fun s ok d h => ?_, fun s d h => ?_⟩
  · refine ⟨s.prgRam.bytes, s.prgRam.length_bytes, s.prgRam.getElem?_bytes, ?_, ?_⟩
    · rw [hostSave_battery hs, if_neg (by decide)]
    · rw [hostLoad_battery_some hu, if_pos (s.prgRam.length_bytes.trans hsize.symm),
        Memory.ofBytes_bytes hwf]
  · exact ⟨hostSave_no_battery h ok, hostLoad_no_battery h d⟩
  · refine ⟨?_, hostLoad_battery_none h, fun hlength => ?_⟩
    · rw [hostSave_battery h, if_pos rfl]
    · rw [hostLoad_battery_some h, if_neg hlength]

/-! ### Construction and reset -/

/-- The PRG-RAM size of R403 and R1101. -/
theorem constructedRamSize_eq (k : Kind) (m : Metadata) :
    constructedRamSize k m = if k = .fds then max fdsRamSize m.prgRamSize else m.prgRamSize := by
  unfold constructedRamSize
  by_cases hk : k = .fds
  · simp only [hk, true_and, if_true]
    split <;> omega
  · simp only [hk, false_and, if_false]

/-- A buffer is needed where it has a size (R403, R404). -/
theorem mustAllocate_iff (k : Kind) (m : Metadata) :
    mustAllocate k m = true ↔ constructedRamSize k m ≠ 0 ∨ m.chrRom.size = 0 ∨ k = .mmc5 := by
  simp [mustAllocate, or_assoc]

/-- Settles O52: the branches of construction in the order of R1201; a canonical image is kept as it
is. -/
theorem constructionFailsInOrderOrGivesPowerOn :
    Obligations.ConstructionFailsInOrderOrGivesPowerOn := by
  intro m s
  simp only [← constructedRamSize_eq, ← mustAllocate_iff]
  obtain ⟨hrom, hc⟩ | ⟨hrom, hfactory, hc⟩ | ⟨k, hrom, hfactory, hneed, hok, hc⟩ |
    ⟨k, hrom, hfactory, hok, hc⟩ := construct_cases m s
  · refine ⟨_, hc, ?_⟩
    rw [if_pos hrom]
    exact ⟨rfl, rfl⟩
  · refine ⟨_, hc, ?_⟩
    rw [if_neg hrom, hfactory]
    exact ⟨rfl, rfl⟩
  · refine ⟨_, hc, ?_⟩
    rw [if_neg hrom, hfactory]
    dsimp only
    rw [if_pos ⟨hneed, hok⟩]
    exact ⟨rfl, rfl⟩
  · refine ⟨_, hc, ?_⟩
    rw [if_neg hrom, hfactory]
    dsimp only
    rw [if_neg hok]
    exact ⟨rfl, rfl, rfl, rfl, rfl, rfl, Memory.size_ofCells .., Memory.size_ofCells ..,
      Memory.ofCells_self, Memory.ofCells_self, rfl, rfl, rfl, rfl, Memory.read_zeroed _, rfl,
      Memory.read_zeroed _, rfl, Memory.read_zeroed _⟩

/-- Settles O51: the other files are at reset by the invariant, and the reset sets the active one. -/
theorem resetRestoresRegistersAndKeepsMemory :
    Obligations.ResetRestoresRegistersAndKeepsMemory := by
  refine ⟨rfl, fun s h _ => ⟨_, resetCartridge_eq s, h.othersAtReset, ?_, rfl, rfl, rfl, rfl, rfl,
    rfl, rfl⟩⟩
  exact pending_resetKind ..

/-- Settles O53: without a cartridge only construct is served. -/
theorem noCartridgeServesOnlyConstruction : Obligations.NoCartridgeServesOnlyConstruction := by
  refine ⟨fun s => ⟨_, rfl, rfl⟩, fun r s hs => ⟨?_, fun hr => ?_⟩⟩
  · rintro m rfl
    rfl
  · obtain ⟨m, hm, -⟩ | ⟨-, hfault⟩ := handle_absent r s hs
    · exact absurd hm (hr m)
    · exact hfault

/-! ### A step -/

theorem step_nil {s : State} (h : s.requests = []) : step s = .next s := by
  rw [step, serveNext, h]

theorem step_cons {s : State} {r : Request} {rest : List Request} (h : s.requests = r :: rest) :
    step s = handle r { s with requests := rest } := by
  rw [step, serveNext, h]

/-- A request put before the pending ones is the next to be handled. -/
theorem step_push (u : State) (r : Request) :
    step { u with requests := r :: u.requests } = handle r u :=
  step_cons rfl

/-- A word that decodes names the kind and a transaction that decodes to the same instruction. -/
theorem targetOfBytes_of_decodeTableWord {nbits w : Nat} {i : Instr}
    (h : decodeTableWord nbits w = some i) :
    ∃ b rest, targetOfBytes (tableBytes nbits w) = .ok ((i.kind, b), rest) ∧
      decode i.kind b = .ok i := by
  unfold decodeTableWord decodeBytes at h
  cases htarget : targetOfBytes (tableBytes nbits w) with
  | error e => rw [htarget] at h; cases h
  | ok t =>
    obtain ⟨⟨k, b⟩, rest⟩ := t
    rw [htarget] at h
    dsimp only at h
    cases hdec : decode k b with
    | error e => rw [hdec] at h; cases h
    | ok j =>
      rw [hdec] at h
      cases h
      obtain ⟨rfl, -, -⟩ := isRowOf_of_decode hdec
      exact ⟨b, rest, rfl, hdec⟩

/-- `withKind` gives a cartridge of the kind and keeps the pending requests (log entry 12). -/
theorem withKind_spec (k : Kind) (s : State) : (withKind k s).present = true ∧
    (withKind k s).image.kind = k ∧ (withKind k s).requests = s.requests := by
  unfold withKind
  split
  next h => exact ⟨h.1, h.2, rfl⟩
  next => exact ⟨rfl, rfl, rfl⟩

/-- The word's transaction, put first, is the next step (log entry 12). -/
theorem step_withFetchWord {s : State} {nbits w : Nat} {i : Instr}
    (h : decodeTableWord nbits w = some i) :
    step (s.withFetchWord nbits w) = exec i (withKind i.kind s) := by
  obtain ⟨b, rest, htarget, hdec⟩ := targetOfBytes_of_decodeTableWord h
  obtain ⟨hpresent, hkind, hrequests⟩ := withKind_spec i.kind s
  have hplace : s.withFetchWord nbits w =
      { withKind i.kind s with requests := .bus b :: (withKind i.kind s).requests } := by
    rw [State.withFetchWord, placeWord, htarget, hrequests]
  rw [hplace, step_push, handle_present _ _ hpresent]
  exact serveBus_of_ok b (withKind i.kind s) i (by rw [hkind, hdec])

/-- Settles O44: a step handles the oldest request, and each request has its own operation. -/
theorem stepRunsTheDecodedTransaction : Obligations.StepRunsTheDecodedTransaction := by
  refine ⟨fun s r rest hpresent hr => ?_, fun s m rest hr => step_cons hr, fun s => step_nil,
    fun s nbits w i => step_withFetchWord⟩
  intro u
  have hserve : step s = serve r u := (step_cons hr).trans (handle_present r u hpresent)
  rw [hserve]
  cases r with
  | bus b =>
    change serveBus b u = _
    dsimp only
    cases hdec : decode s.image.kind b with
    | ok i => exact serveBus_of_ok b u i hdec
    | error e =>
      rw [serveBus_of_error b u e hdec]
      cases b <;> rfl
  | _ => rfl

/-! ### Bank arithmetic -/

/-- Where a whole bank exists, the bank count is the quotient (R210). -/
theorem nbanks_of_lt {size bs b : Nat} (h : b < size / bs) : nbanks size bs = size / bs :=
  max_eq_right (by omega)

/-- A whole bank that exists is its own slice of the buffer (R211 to R213). -/
theorem bankOffset_of_lt {size bs b : Nat} (a : Nat) (hbs : bs ≠ 0) (h : b < size / bs) :
    bankOffset size b bs a = b * bs + a % bs := by
  have hslice : b * bs + a % bs < size :=
    calc b * bs + a % bs < b * bs + bs := by
          have := Nat.mod_lt a (Nat.pos_of_ne_zero hbs)
          omega
      _ = (b + 1) * bs := (Nat.succ_mul b bs).symm
      _ ≤ size := (Nat.le_div_iff_mul_le (Nat.pos_of_ne_zero hbs)).1 h
  rw [bankOffset, nbanks_of_lt h, Nat.mod_eq_of_lt h, Nat.mod_eq_of_lt hslice]

/-- The last bank (R214). -/
theorem fromEnd_one (size bs : Nat) : fromEnd size bs 1 = nbanks size bs - 1 :=
  fromEnd_eq size bs 1 le_rfl (nbanks_pos size bs)

/-- The penultimate bank, which is bank 0 where there is only one (R214, decision D8). -/
theorem fromEnd_two (size bs : Nat) :
    fromEnd size bs 2 = if nbanks size bs = 1 then 0 else nbanks size bs - 2 := by
  have hpos := nbanks_pos size bs
  split
  next h => rw [fromEnd, h]; rfl
  next h => exact fromEnd_eq size bs 2 (by decide) (by omega)

/-- Settles O9: each clause is a law of the bank arithmetic. -/
theorem bankArithmeticStaysInsideTheBuffer : Obligations.BankArithmeticStaysInsideTheBuffer := by
  intro size b bs a hsize hbs
  refine ⟨bankOffset_lt size b bs a hsize, ?_, bankOffset_of_lt a hbs, fromEnd_one size bs,
    fromEnd_two size bs⟩
  rw [bankOffset, Nat.add_mod_right, bankOffset]

/-- Settles O40: each transaction runs through the decoder (closed instances). -/
theorem decodingReadsTheWrittenTransactions :
    Obligations.DecodingReadsTheWrittenTransactions := by
  exact ⟨rfl, rfl, rfl, rfl, rfl, rfl, rfl, rfl, rfl, rfl, rfl, rfl, rfl, rfl, rfl, rfl, rfl⟩

end Sys2Proof
end

section
/-!
MMC3 (43_mmc3.md): register writes, the PRG and CHR windows, the PRG-RAM gate, and the interrupt that
the A12 edges count down to.
-/

namespace Sys2Proof

open Sys2Proof.Machine Sys2Proof.Config

/-! ### Fields and registers -/

/-- The low bits of a word, as a number. -/
theorem toNat_extractLsb_zero {w : Nat} (v : BitVec w) (hi : Nat) :
    (v.extractLsb hi 0).toNat = v.toNat % 2 ^ (hi + 1) := by
  simp

/-- A register inside its array. -/
theorem regAt_eq_getElem {w n : Nat} (r : Vector (BitVec w) n) (i : Nat) (h : i < n) :
    regAt r i = r[i] := by
  simp [regAt, h]

/-- The one-bit mirroring code (R703, R806, R1115). -/
theorem hvMirror_eq (m : BitVec 1) : hvMirror m = if m = 1 then .horizontal else .vertical := by
  have hm : m = 0 ∨ m = 1 := by bv_omega
  obtain rfl | rfl := hm <;> rfl

theorem bitVec2_cases (t : BitVec 2) : t = 0 ∨ t = 1 ∨ t = 2 ∨ t = 3 := by
  bv_omega

/-! ### Register writes and the PRG side -/

/-- Settles O13: every row but the mirroring one computes to its state; that one writes the mode
under the four-screen lock. -/
theorem mmc3RegisterWritesStoreTheirValue : Obligations.Mmc3RegisterWritesStoreTheirValue := by
  intro s a v
  refine ⟨rfl, rfl, rfl, rfl, rfl, rfl, ?_⟩
  have hexec : exec (.mmc3Mirroring a v) s = done (setMirror (hvMirror (v.extractLsb 0 0))
      { s with regs.mmc3.mirroring := v.extractLsb 0 0 }) := rfl
  rw [hexec, setMirror_eq, hvMirror_eq]
  simp only [extract_bit_one]
  rfl

/-- The bank of MMC3's PRG window, by the four windows (R709). -/
theorem mmc3PrgBank_eq (r : Mmc3Regs) (last penultimate : Nat) (a : Word) :
    mmc3PrgBank r last penultimate a =
      if a.extractLsb 14 13 = 0 then
        (if r.bankSelect.getLsbD 6 then penultimate else r.r[6].toNat % 64)
      else if a.extractLsb 14 13 = 1 then r.r[7].toNat % 64
      else if a.extractLsb 14 13 = 2 then
        (if r.bankSelect.getLsbD 6 then r.r[6].toNat % 64 else penultimate)
      else last := by
  have h6 := regAt_eq_getElem r.r 6 (by decide)
  have h7 := regAt_eq_getElem r.r 7 (by decide)
  simp only [mmc3PrgBank, h6, h7, toNat_extractLsb_zero, extract_bit_zero]
  obtain h | h | h | h := bitVec2_cases (a.extractLsb 14 13) <;> rw [h] <;>
    cases r.bankSelect.getLsbD 6 <;> rfl

/-- Settles O15: the window's bank, with the last two banks written out. -/
theorem mmc3PrgWindowsSwapWithBankSelectBit6 :
    Obligations.Mmc3PrgWindowsSwapWithBankSelectBit6 := by
  intro s a
  have hexec : exec (.mmc3PrgRead a) s = reply (prgRomBank s
      (mmc3PrgBank s.regs.mmc3 (prgFromEnd s k8 1) (prgFromEnd s k8 2) a) k8 a) s := rfl
  rw [hexec, reply_eq, mmc3PrgBank_eq, prgFromEnd, prgFromEnd, fromEnd_one, fromEnd_two]

/-- Settles O16: the gate is the two bits of `prg_ram_protect` (R713, R714). -/
theorem mmc3PrgRamIsGatedByProtect : Obligations.Mmc3PrgRamIsGatedByProtect := by
  intro s a v
  have hread : exec (.mmc3PrgramRead a) s =
      reply (if s.regs.mmc3.prgRamProtect.extractLsb 7 7 = 1 then prgRamBank s 0 k8 a else 0) s :=
    rfl
  refine ⟨?_, _, rfl, ?_⟩
  · simp only [hread, reply_eq, extract_bit_one]
  · simp only [extract_bit_one, extract_bit_zero, Bool.and_eq_true, Bool.not_eq_true']
    split
    · exact prgRamStored_prgRamStore ..
    · rfl

/-! ### The CHR side -/

/-- MMC3's CHR window with the inverted address written out (R711). -/
theorem mmc3Chr_eq (r : Mmc3Regs) (a : ChrAddr) :
    mmc3Chr r a =
      let ac := if r.bankSelect.getLsbD 7 then (a ^^^ 0x1000).toNat else a.toNat
      let w : Nat × Nat :=
        if ac < 0x0800 then (r.r[0].toNat, k2) else if ac < 0x1000 then (r.r[1].toNat, k2)
        else if ac < 0x1400 then (r.r[2].toNat, k1) else if ac < 0x1800 then (r.r[3].toNat, k1)
        else if ac < 0x1C00 then (r.r[4].toNat, k1) else (r.r[5].toNat, k1)
      ⟨w.1, w.2⟩ := by
  have hac : a ^^^ ((r.bankSelect.extractLsb 7 7).setWidth 13 <<< 12) =
      if r.bankSelect.getLsbD 7 then a ^^^ 0x1000 else a := by
    cases h : r.bankSelect.getLsbD 7
    · rw [(extract_bit_zero _ _).2 h]
      exact BitVec.xor_zero
    · rw [(extract_bit_one _ _).2 h]
      rfl
  have hread (i : Nat) (h : i < 8) : regAt r.r i = r.r[i] := regAt_eq_getElem r.r i h
  simp only [mmc3Chr, hac, BitVec.lt_def, hread, Nat.reduceLT, apply_ite BitVec.toNat,
    BitVec.reduceToNat]
  generalize (if r.bankSelect.getLsbD 7 then (a ^^^ 0x1000).toNat else a.toNat) = ac
  split_ifs <;> rfl

/-- A clock of the counter, with its interrupt (R721). -/
theorem clockIrq_eq (s : State) :
    clockIrq s = { s with
      regs.mmc3.irqCounter := mmc3NextCounter s.regs.mmc3
      regs.mmc3.irqReload := false
      regs.mmc3.irqPending :=
        if mmc3NextCounter s.regs.mmc3 = 0 ∧ s.regs.mmc3.irqEnable = true then true
        else s.regs.mmc3.irqPending
      triggers :=
        if mmc3NextCounter s.regs.mmc3 = 0 ∧ s.regs.mmc3.irqEnable = true then s.triggers + 1
        else s.triggers } := by
  obtain ⟨hzero, henable, hclock⟩ | ⟨hno, hclock⟩ := clockIrq_cases s
  · simp only [hclock, if_pos (And.intro hzero henable)]
    rfl
  · simp only [hclock, if_neg hno]

/-- The edge detector, written out, on a state whose registers and events are those of `s` (R720). -/
theorem edgeDetect_eq_a12Seen {s t : State} (a : ChrAddr) (hregs : t.regs = s.regs)
    (htriggers : t.triggers = s.triggers) : edgeDetect a t = a12Seen s t a := by
  have hedge : a12Edge t a = a12Edge s a := by rw [a12Edge, hregs, a12Edge]
  have hfires : a12Fires s a = true ↔ a12Edge s a = true ∧
      mmc3NextCounter s.regs.mmc3 = 0 ∧ s.regs.mmc3.irqEnable = true := by
    simp [a12Fires, and_assoc]
  cases h : a12Edge s a with
  | false =>
    rw [edgeDetect_of_no_edge a t (hedge.trans h)]
    simp [a12Seen, a12Fires, h, ← hregs, ← htriggers]
  | true =>
    rw [edgeDetect_of_edge a t (hedge.trans h), clockIrq_eq]
    simp only [a12Seen, hfires, h, hregs, htriggers, true_and, if_true]

/-- Settles O17: the window is the one written out, and the edge detector runs on a state whose
registers are those before the access. -/
theorem mmc3ChrAccessAnswersThenDetectsEdge : Obligations.Mmc3ChrAccessAnswersThenDetectsEdge := by
  intro s a v r ac w
  have hw : mmc3Chr s.regs.mmc3 a = ⟨w.1, w.2⟩ := mmc3Chr_eq s.regs.mmc3 a
  have hread : exec (.mmc3ChrRead a) s =
      reply (chrWindowByte s (mmc3Chr s.regs.mmc3 a) a) (edgeDetect a s) := rfl
  have hwrite : exec (.mmc3ChrWrite a v) s =
      done (edgeDetect a (chrWindowStore s (mmc3Chr s.regs.mmc3 a) a v)) := rfl
  rw [hread, hwrite, hw]
  refine ⟨?_, chrWindowStore s ⟨w.1, w.2⟩ a v, ?_, chrStored_chrStore ..⟩
  · rw [reply_eq, edgeDetect_eq_a12Seen a rfl rfl]
    rfl
  · rw [done_eq, edgeDetect_eq_a12Seen (t := chrWindowStore s ⟨w.1, w.2⟩ a v) a
      (chrStore_regs ..) (chrStore_triggers ..)]

/-! ### The countdown -/

/-- One pair of PPU reads of $0000 and $1000 is one clock of the counter (R330, R720, R721). -/
structure A12Clock (s t : State) : Prop where
  present : t.present = s.present
  image : t.image = s.image
  latch : t.regs.mmc3.irqLatch = s.regs.mmc3.irqLatch
  enable : t.regs.mmc3.irqEnable = s.regs.mmc3.irqEnable
  counter : t.regs.mmc3.irqCounter = mmc3NextCounter s.regs.mmc3
  reload : t.regs.mmc3.irqReload = false
  quiet : mmc3NextCounter s.regs.mmc3 ≠ 0 →
    t.regs.mmc3.irqPending = s.regs.mmc3.irqPending ∧ t.triggers = s.triggers
  fires : mmc3NextCounter s.regs.mmc3 = 0 → s.regs.mmc3.irqEnable = true →
    t.regs.mmc3.irqPending = true ∧ t.triggers = s.triggers + 1

/-- A PPU read on an MMC3 cartridge answers and runs the edge detector (R412, R712). -/
theorem handle_mmc3ChrRead {s : State} (hs : s.present = true) (hk : s.image.kind = .mmc3)
    (a : Word) : ∃ v, handle (.bus (.chrRead a)) s =
      .next { edgeDetect (a.setWidth 13) s with answer := .byte v } := by
  have hdec : decode s.image.kind (.chrRead a) = .ok (.mmc3ChrRead (a.setWidth 13)) := by
    rw [hk]
    rfl
  exact ⟨_, (handle_present _ s hs).trans (serveBus_of_ok _ s _ hdec)⟩

/-- A request that is answered is run before the rest. -/
theorem run_cons {r : Request} {s t : State} (h : handle r s = .next t) (rest : List Request) :
    run (r :: rest) s = run rest t := by
  rw [run, h]

/-- The read of $0000 takes A12 down, the one of $1000 is a rising edge and clocks the counter. -/
theorem run_a12Pair {s : State} (hs : s.present = true) (hk : s.image.kind = .mmc3) :
    ∃ t, (∀ rest, run (.bus (.chrRead 0x0000) :: .bus (.chrRead 0x1000) :: rest) s = run rest t) ∧
      A12Clock s t := by
  obtain ⟨v, hlow⟩ := handle_mmc3ChrRead hs hk 0x0000
  have hdown : a12Edge s ((0x0000 : Word).setWidth 13) = false := by simp [a12Edge]
  rw [edgeDetect_of_no_edge _ s hdown] at hlow
  generalize hu : { s with regs.mmc3.lastA12 := ((0x0000 : Word).setWidth 13).extractLsb 12 12,
                           answer := Answer.byte v } = u at hlow
  obtain ⟨w, hhigh⟩ := handle_mmc3ChrRead (s := u) (by rw [← hu, hs]) (by rw [← hu, hk]) 0x1000
  have hup : a12Edge u ((0x1000 : Word).setWidth 13) = true := by
    rw [← hu]
    rfl
  rw [edgeDetect_of_edge _ u hup, clockIrq_eq] at hhigh
  refine ⟨_, fun rest => (run_cons hlow _).trans (run_cons hhigh _), ?_⟩
  subst hu
  refine ⟨rfl, rfl, rfl, rfl, rfl, rfl, fun hne => ?_, fun hzero henable => ?_⟩
  · have hno : ¬(mmc3NextCounter s.regs.mmc3 = 0 ∧ s.regs.mmc3.irqEnable = true) :=
      fun h => hne h.1
    exact ⟨if_neg hno, if_neg hno⟩
  · exact ⟨if_pos ⟨hzero, henable⟩, if_pos ⟨hzero, henable⟩⟩

/-- A counter above 0 with no reload requested counts down by one (R721). -/
theorem mmc3NextCounter_toNat {r : Mmc3Regs} {c : Nat} (hcounter : r.irqCounter.toNat = c + 1)
    (hreload : r.irqReload = false) : (mmc3NextCounter r).toNat = c := by
  have hne : ¬(r.irqCounter = 0 ∨ r.irqReload = true) := by
    rintro (h | h)
    · rw [h] at hcounter
      cases hcounter
    · exact absurd (hreload.symm.trans h) (by decide)
  rw [mmc3NextCounter, if_neg hne]
  bv_omega

/-- An MMC3 cartridge whose interrupt is enabled. -/
structure Mmc3Enabled (s : State) : Prop where
  present : s.present = true
  kind : s.image.kind = .mmc3
  enable : s.regs.mmc3.irqEnable = true

theorem Mmc3Enabled.level_eq {s : State} (h : Mmc3Enabled s) :
    level s = s.regs.mmc3.irqPending := by
  rw [level, h.kind]
  rfl

/-- A pair of reads clocks an enabled MMC3, and it stays enabled. -/
theorem Mmc3Enabled.clock {s : State} (h : Mmc3Enabled s) :
    ∃ t, (∀ n, run (a12Rises (n + 1)) s = run (a12Rises n) t) ∧ A12Clock s t ∧
      Mmc3Enabled t := by
  obtain ⟨t, hrun, hclock⟩ := run_a12Pair h.present h.kind
  exact ⟨t, fun n => hrun _, hclock, hclock.present.trans h.present, by rw [hclock.image, h.kind],
    hclock.enable.trans h.enable⟩

/-- A clock to a count other than 0 raises nothing. -/
theorem A12Clock.quiet_level {s t : State} (h : A12Clock s t) (hs : Mmc3Enabled s)
    (ht : Mmc3Enabled t) (hne : mmc3NextCounter s.regs.mmc3 ≠ 0) :
    level t = level s ∧ t.triggers = s.triggers := by
  rw [ht.level_eq, hs.level_eq]
  exact h.quiet hne

/-- A clock to the count 0 raises the interrupt. -/
theorem A12Clock.fires_level {s t : State} (h : A12Clock s t) (hs : Mmc3Enabled s)
    (ht : Mmc3Enabled t) (hzero : mmc3NextCounter s.regs.mmc3 = 0) :
    level t = true ∧ t.triggers = s.triggers + 1 := by
  rw [ht.level_eq]
  exact h.fires hzero hs.enable

/-- From a counter `c` with no reload requested, fewer than `c` edges leave the level and the events,
and the edge `c` raises the interrupt (R721, decision D21). -/
theorem run_a12Rises_countdown (n : Nat) {s : State} (hs : Mmc3Enabled s)
    (hreload : s.regs.mmc3.irqReload = false) {c : Nat}
    (hcounter : s.regs.mmc3.irqCounter.toNat = c) :
    (n < c → ∃ t, run (a12Rises n) s = some t ∧ level t = level s ∧ t.triggers = s.triggers) ∧
    (n + 1 = c → ∃ t, run (a12Rises (n + 1)) s = some t ∧ level t = true ∧
      t.triggers = s.triggers + 1) := by
  obtain ⟨t, hrun, hclock, ht⟩ := hs.clock
  induction n generalizing s t c with
  | zero =>
    refine ⟨fun _ => ⟨s, rfl, rfl, rfl⟩, fun hc => ?_⟩
    have hzero := mmc3NextCounter_toNat (c := 0) (hcounter.trans hc.symm) hreload
    exact ⟨t, hrun 0, hclock.fires_level hs ht (BitVec.eq_of_toNat_eq hzero)⟩
  | succ n ih =>
    obtain ⟨u, hrun', hclock', hu⟩ := ht.clock
    have step (hc : n + 1 < c) : level t = level s ∧ t.triggers = s.triggers ∧
        t.regs.mmc3.irqCounter.toNat = c - 1 := by
      have hnext := mmc3NextCounter_toNat (c := c - 1) (by omega) hreload
      have hne : mmc3NextCounter s.regs.mmc3 ≠ 0 := fun h => by
        rw [h] at hnext
        have : 0 = c - 1 := hnext
        omega
      obtain ⟨hlevel, htriggers⟩ := hclock.quiet_level hs ht hne
      exact ⟨hlevel, htriggers, by rw [hclock.counter, hnext]⟩
    constructor
    · intro hc
      obtain ⟨hlevel, htriggers, hcount⟩ := step hc
      obtain ⟨x, hx, hxl, hxt⟩ :=
        (ih ht hclock.reload hcount u hrun' hclock' hu).1 (by omega)
      exact ⟨x, (hrun n).trans hx, hxl.trans hlevel, hxt.trans htriggers⟩
    · intro hc
      obtain ⟨hlevel, htriggers, hcount⟩ := step (by omega)
      obtain ⟨x, hx, hxl, hxt⟩ :=
        (ih ht hclock.reload hcount u hrun' hclock' hu).2 (by omega)
      exact ⟨x, (hrun (n + 1)).trans hx, hxl, by rw [hxt, htriggers]⟩

/-- Settles O18: the first edge takes the latch into the counter, which is where a latch of 0 fires;
from there it counts down. -/
theorem mmc3InterruptsAfterLatchPlusOneEdges :
    Obligations.Mmc3InterruptsAfterLatchPlusOneEdges := by
  intro s hpresent hkind henable hpending hload
  have hs : Mmc3Enabled s := ⟨hpresent, hkind, henable⟩
  have hlow : level s = false := hs.level_eq.trans hpending
  have hnext : mmc3NextCounter s.regs.mmc3 = s.regs.mmc3.irqLatch := if_pos hload
  obtain ⟨t, hrun, hclock, ht⟩ := hs.clock
  have hcount : t.regs.mmc3.irqCounter.toNat = s.regs.mmc3.irqLatch.toNat := by
    rw [hclock.counter, hnext]
  have countdown (n : Nat) := run_a12Rises_countdown n ht hclock.reload hcount
  have hquiet (h : s.regs.mmc3.irqLatch.toNat ≠ 0) :
      level t = level s ∧ t.triggers = s.triggers :=
    hclock.quiet_level hs ht (by rw [hnext]; exact fun h0 => h (by rw [h0]; rfl))
  constructor
  · intro n hn
    cases n with
    | zero => exact ⟨s, rfl, hlow, rfl⟩
    | succ n =>
      obtain ⟨hlevel, htriggers⟩ := hquiet (by omega)
      obtain ⟨x, hx, hxl, hxt⟩ := (countdown n).1 (by omega)
      exact ⟨x, (hrun n).trans hx, by rw [hxl, hlevel, hlow], hxt.trans htriggers⟩
  · cases hlatch : s.regs.mmc3.irqLatch.toNat with
    | zero =>
      have hzero : mmc3NextCounter s.regs.mmc3 = 0 := hnext.trans (BitVec.eq_of_toNat_eq hlatch)
      exact ⟨t, hrun 0, hclock.fires_level hs ht hzero⟩
    | succ n =>
      obtain ⟨-, htriggers⟩ := hquiet (by omega)
      obtain ⟨x, hx, hxl, hxt⟩ := (countdown n).2 hlatch.symm
      exact ⟨x, (hrun (n + 1)).trans hx, hxl, by rw [hxt, htriggers]⟩

end Sys2Proof
end

section
/-!
MMC2 and MMC4 (44_mmc2_mmc4.md): register writes, the PRG windows, and the CHR latches.
-/

namespace Sys2Proof

open Sys2Proof.Machine Sys2Proof.Config

/-- Settles O20: the rows of both kinds compute to the same states; the mirroring row writes the mode
under the four-screen lock. -/
theorem mmc2AndMmc4RegisterWritesStoreTheirField :
    Obligations.Mmc2AndMmc4RegisterWritesStoreTheirField := by
  intro s a v
  have hmirror : ∀ i ∈ ([.mmc2Mirroring a v, .mmc4Mirroring a v] : List Instr), exec i s =
      done (setMirror (hvMirror (v.extractLsb 0 0))
        { s with regs.mmc24.mirroring := v.extractLsb 0 0 }) := by
    simp only [List.forall_mem_cons]
    exact ⟨rfl, rfl, List.forall_mem_nil _⟩
  refine ⟨?_, ?_, ?_, ?_, ?_, fun i hi => ?_, ?_⟩
  case refine_6 =>
    rw [hmirror i hi, setMirror_eq, hvMirror_eq]
    simp only [extract_bit_one]
    rfl
  all_goals
    simp only [List.forall_mem_cons]
    exact ⟨rfl, rfl, List.forall_mem_nil _⟩

/-- The two halves of the PPU's pattern addresses, by bit 12. -/
theorem chrAddr_bit12_zero (a : ChrAddr) : a.extractLsb 12 12 = 0 ↔ a.toNat < 0x1000 := by
  rw [extract_bit_zero, BitVec.getLsbD, Nat.testBit_eq_decide_div_mod_eq]
  have := a.isLt
  simp
  omega

/-- The bank of MMC2's PRG window (R810). -/
theorem mmc2PrgBank_eq (s : State) (p : Word) :
    (if p.extractLsb 14 13 = 0 then s.regs.mmc24.prgBank.toNat
      else prgFromEnd s k8 (4 - (p.extractLsb 14 13).toNat)) =
    if (p.extractLsb 14 13).toNat = 0 then s.regs.mmc24.prgBank.toNat
    else if 4 - (p.extractLsb 14 13).toNat ≤ nbanks s.image.prgRom.size k8 then
      nbanks s.image.prgRom.size k8 - (4 - (p.extractLsb 14 13).toNat)
    else fromEnd s.image.prgRom.size k8 (4 - (p.extractLsb 14 13).toNat) := by
  have hw := (p.extractLsb 14 13).isLt
  have hzero : p.extractLsb 14 13 = 0 ↔ (p.extractLsb 14 13).toNat = 0 := by
    rw [← BitVec.toNat_inj]
    rfl
  simp only [hzero]
  split_ifs with h h'
  · rfl
  · exact fromEnd_eq _ _ _ (by omega) h'
  · rfl

/-- The latch update, by the four trigger ranges (R813). -/
theorem latchUpdate_toNat (a : ChrAddr) (r : Mmc24Regs) :
    latchUpdate a r = { r with
      latch0 := if 0x0FD8 ≤ a.toNat ∧ a.toNat ≤ 0x0FDF then .fd
        else if 0x0FE8 ≤ a.toNat ∧ a.toNat ≤ 0x0FEF then .fe else r.latch0
      latch1 := if 0x1FD8 ≤ a.toNat ∧ a.toNat ≤ 0x1FDF then .fd
        else if 0x1FE8 ≤ a.toNat ∧ a.toNat ≤ 0x1FEF then .fe else r.latch1 } := by
  simp only [latchUpdate, BitVec.le_def, BitVec.reduceToNat]
  generalize a.toNat = x
  split
  case isTrue h => rw [if_neg (by omega), if_neg (by omega)]
  case isFalse =>
    split
    case isTrue h => rw [if_neg (by omega), if_neg (by omega)]
    case isFalse h =>
      split
      case isTrue => rfl
      case isFalse => split <;> rfl

/-- MMC2's and MMC4's CHR bank, by the half of the address (R812). -/
theorem mmc24Chr_eq (r : Mmc24Regs) (a : ChrAddr) :
    mmc24Chr r a =
      ⟨if a.toNat < 0x1000 then (if r.latch0 = .fd then r.chrFd0 else r.chrFe0).toNat
        else (if r.latch1 = .fd then r.chrFd1 else r.chrFe1).toNat, k4⟩ := by
  simp only [mmc24Chr, chrAddr_bit12_zero]
  split <;> rfl

/-- The CHR reads of both kinds (R812, R813). -/
theorem exec_mmc24ChrRead (s : State) (a : ChrAddr) :
    ∀ i ∈ ([.mmc2ChrRead a, .mmc4ChrRead a] : List Instr), exec i s =
      reply (chrWindowByte s (mmc24Chr s.regs.mmc24 a) a)
        { s with regs.mmc24 := latchUpdate a s.regs.mmc24 } := by
  simp only [List.forall_mem_cons]
  exact ⟨rfl, rfl, List.forall_mem_nil _⟩

/-- The CHR writes of both kinds (R814). -/
theorem exec_mmc24ChrWrite (s : State) (a : ChrAddr) (v : Byte) :
    ∀ i ∈ ([.mmc2ChrWrite a v, .mmc4ChrWrite a v] : List Instr), exec i s =
      done (chrWindowStore s (mmc24Chr s.regs.mmc24 a) a v) := by
  simp only [List.forall_mem_cons]
  exact ⟨rfl, rfl, List.forall_mem_nil _⟩

/-- Settles O21: the PRG banks and the latches written out. -/
theorem mmc2AndMmc4WindowsAndLatches : Obligations.Mmc2AndMmc4WindowsAndLatches := by
  intro s p a v n8 w r x b
  have hwindow : mmc24Chr s.regs.mmc24 a = ⟨b, k4⟩ := mmc24Chr_eq s.regs.mmc24 a
  refine ⟨?_, ?_, fun i hi => ?_, fun i hi => ?_⟩
  · have hexec : exec (.mmc2PrgRead p) s = reply (prgRomBank s
        (if p.extractLsb 14 13 = 0 then s.regs.mmc24.prgBank.toNat
          else prgFromEnd s k8 (4 - (p.extractLsb 14 13).toNat)) k8 p) s := rfl
    rw [hexec, mmc2PrgBank_eq, reply_eq]
  · have hexec : exec (.mmc4PrgRead p) s = reply (prgRomBank s
        (if p.extractLsb 14 14 = 0 then s.regs.mmc24.prgBank.toNat else prgFromEnd s k16 1) k16 p) s :=
      rfl
    rw [hexec, reply_eq, prgFromEnd, fromEnd_one]
    simp only [extract_bit_zero]
    cases p.getLsbD 14 <;> rfl
  · rw [exec_mmc24ChrRead s a i hi, reply_eq, latchUpdate_toNat, hwindow]
    rfl
  · refine ⟨_, exec_mmc24ChrWrite s a v i hi, ?_⟩
    rw [hwindow]
    exact chrStored_chrStore ..

/-! ### A trigger read and the read after it -/

/-- A PPU read put on the bus is the CHR read row of the cartridge's kind (R412). -/
theorem handle_chrRead {s : State} (hs : s.present = true) (a : ChrAddr) :
    handle (.bus (.chrRead (a.setWidth 16))) s =
      reply (chrWindowByte s (chrWindow s.image.kind s.regs a) a)
        (afterChrRead s.image.kind a s) := by
  rw [handle_present _ s hs, ← exec_chrReadInstr]
  exact serveBus_of_ok _ s _ (decode_chrRead_setWidth _ a)

/-- On MMC2 and MMC4 a PPU read answers the byte of the bank its latch selects and then moves the
latches (R812, R813). -/
theorem handle_mmc24ChrRead {s : State} (hs : s.present = true)
    (hk : s.image.kind = .mmc2 ∨ s.image.kind = .mmc4) (a : ChrAddr) :
    handle (.bus (.chrRead (a.setWidth 16))) s =
      reply (chrWindowByte s (mmc24Chr s.regs.mmc24 a) a)
        { s with regs.mmc24 := latchUpdate a s.regs.mmc24 } := by
  have hwindow : chrWindow s.image.kind s.regs a = mmc24Chr s.regs.mmc24 a := by
    obtain hk | hk := hk <;> rw [hk] <;> rfl
  rw [handle_chrRead hs, afterChrRead, if_pos hk, hwindow]

/-- After a trigger, the window of the same half is the bank of that trigger (R812, R813). -/
theorem mmc24Chr_latchUpdate (r : Mmc24Regs) (a b : ChrAddr) :
    (0x0FD8 ≤ a → a ≤ 0x0FDF → b < 0x1000 →
      mmc24Chr (latchUpdate a r) b = ⟨r.chrFd0.toNat, k4⟩) ∧
    (0x0FE8 ≤ a → a ≤ 0x0FEF → b < 0x1000 →
      mmc24Chr (latchUpdate a r) b = ⟨r.chrFe0.toNat, k4⟩) ∧
    (0x1FD8 ≤ a → a ≤ 0x1FDF → 0x1000 ≤ b →
      mmc24Chr (latchUpdate a r) b = ⟨r.chrFd1.toNat, k4⟩) ∧
    (0x1FE8 ≤ a → a ≤ 0x1FEF → 0x1000 ≤ b →
      mmc24Chr (latchUpdate a r) b = ⟨r.chrFe1.toNat, k4⟩) := by
  simp only [mmc24Chr_eq, latchUpdate_toNat, BitVec.le_def, BitVec.lt_def, BitVec.reduceToNat]
  refine ⟨fun h h' hb => ?_, fun h h' hb => ?_, fun h h' hb => ?_, fun h h' hb => ?_⟩
  case refine_1 => rw [if_pos hb, if_pos (And.intro h h'), if_pos rfl]
  case refine_2 =>
    have hother : ¬(0x0FD8 ≤ a.toNat ∧ a.toNat ≤ 0x0FDF) := by omega
    rw [if_pos hb, if_neg hother, if_pos (And.intro h h'), if_neg (by decide)]
  case refine_3 => rw [if_neg (by omega), if_pos (And.intro h h'), if_pos rfl]
  case refine_4 =>
    have hother : ¬(0x1FD8 ≤ a.toNat ∧ a.toNat ≤ 0x1FDF) := by omega
    rw [if_neg (by omega), if_neg hother, if_pos (And.intro h h'), if_neg (by decide)]

/-- Settles O22: the second read's bank is the one of the latches after the first. -/
theorem mmc2AndMmc4TriggerReadSelectsTheBank : Obligations.Mmc2AndMmc4TriggerReadSelectsTheBank := by
  intro s a b hs hk
  have hfirst := handle_mmc24ChrRead hs hk a
  rw [reply_eq] at hfirst
  have hsecond := handle_mmc24ChrRead (s := { s with
    regs.mmc24 := latchUpdate a s.regs.mmc24
    answer := .byte (chrWindowByte s (mmc24Chr s.regs.mmc24 a) a) }) hs hk b
  obtain ⟨hfd0, hfe0, hfd1, hfe1⟩ := mmc24Chr_latchUpdate s.regs.mmc24 a b
  refine ⟨_, (run_cons hfirst _).trans (run_cons hsecond _), fun h h' hb => ?_,
    fun h h' hb => ?_, fun h h' hb => ?_, fun h h' hb => ?_⟩
  case refine_1 => simp only [hfd0 h h' hb]; rfl
  case refine_2 => simp only [hfe0 h h' hb]; rfl
  case refine_3 => simp only [hfd1 h h' hb]; rfl
  case refine_4 => simp only [hfe1 h h' hb]; rfl

end Sys2Proof
end

section
/-!
The scanline hook of every kind, and VRC6, VRC6a and VRC7 (46_vrc6_vrc7.md): register writes, windows,
the PRG-RAM gate, and the interrupt counter.
-/

namespace Sys2Proof

open Sys2Proof.Machine Sys2Proof.Config

/-! ### The scanline hook -/

/-- MMC5's scanline compare, written out (R945). -/
theorem mmc5Scanline_eq (n : Word) (s : State) :
    mmc5Scanline n s =
      let hit : Bool := s.regs.mmc5.irqEnable && n.toNat == s.regs.mmc5.irqScanline.toNat
      { s with
        regs.mmc5.irqPending := if hit then true else s.regs.mmc5.irqPending
        triggers := if hit then s.triggers + 1 else s.triggers } := by
  have htarget : n = s.regs.mmc5.irqScanline.setWidth 16 ↔
      n.toNat = s.regs.mmc5.irqScanline.toNat := by bv_omega
  simp only [mmc5Scanline, htarget, Bool.and_eq_true, beq_iff_eq]
  split <;> rfl

/-- The VRC6 and VRC6a counter, written out (R1020). -/
theorem vrc6Scanline_eq {k : Kind} (hk : k = .vrc6 ∨ k = .vrc6a) (s : State) :
    vrc6Scanline k s =
      let q := s.regs.vrc6.irq
      if q.ctrl.getLsbD 1 = false then s
      else if q.counter = 0xFF then { s with
        regs.vrc6.irq.counter := q.latch
        regs.vrc6.irq.pending := true
        triggers := s.triggers + 1 }
      else { s with regs.vrc6.irq.counter := q.counter + 1 } := by
  simp only [vrc6Scanline, vrcFires, vrcCount, extract_bit_one, Bool.and_eq_true, beq_iff_eq]
  cases s.regs.vrc6.irq.ctrl.getLsbD 1
  · rfl
  · by_cases hfull : s.regs.vrc6.irq.counter = 0xFF
    · obtain rfl | rfl := hk <;> simp only [hfull, if_true, and_self] <;> rfl
    · simp only [hfull, if_true, and_false, if_false]
      rfl

/-- The VRC7 counter, written out (R1020). -/
theorem vrc7Scanline_eq (s : State) :
    vrc7Scanline s =
      let q := s.regs.vrc7.irq
      if q.ctrl.getLsbD 1 = false then s
      else if q.counter = 0xFF then { s with
        regs.vrc7.irq.counter := q.latch
        regs.vrc7.irq.pending := true
        triggers := s.triggers + 1 }
      else { s with regs.vrc7.irq.counter := q.counter + 1 } := by
  simp only [vrc7Scanline, vrcFires, vrcCount, extract_bit_one, Bool.and_eq_true, beq_iff_eq]
  cases s.regs.vrc7.irq.ctrl.getLsbD 1
  · rfl
  · by_cases hfull : s.regs.vrc7.irq.counter = 0xFF
    · simp only [hfull, if_true, and_self]
      rfl
    · simp only [hfull, if_true, and_false, if_false]
      rfl

/-- Settles O28: the hook of each kind, by its equation. -/
theorem scanlineHookByKind : Obligations.ScanlineHookByKind := by
  intro s n q6 q7 hit
  refine ⟨fun hk => ?_, fun hk => ?_, fun hk => ?_, fun hk => ?_, fun hk => ?_⟩
  case refine_1 => rw [notifyScanline, scanlineHook, hk, mmc5Scanline_eq]; rfl
  case refine_2 => rw [notifyScanline, scanlineHook, hk]; rfl
  case refine_3 =>
    have hhook : scanlineHook n s = vrc6Scanline s.image.kind s := by
      obtain hk | hk := hk <;> rw [scanlineHook, hk]
    rw [notifyScanline, hhook, vrc6Scanline_eq hk]
    simp only [apply_ite done]
    rfl
  case refine_4 =>
    rw [notifyScanline, scanlineHook, hk, vrc7Scanline_eq]
    simp only [apply_ite done]
    rfl
  case refine_5 =>
    rw [notifyScanline, scanlineHook]
    revert hk
    cases s.image.kind <;> simp [done_eq]

/-! ### Register writes -/

/-- The two-bit mirroring code as a list of modes (R1003, R1057). -/
theorem vrcMirror_eq (m : BitVec 2) (d : Mirror) :
    ([.vertical, .horizontal, .singleA, .singleB] : List Mirror).getD m.toNat d = vrcMirror m := by
  obtain rfl | rfl | rfl | rfl := bitVec2_cases m <;> rfl

/-- Settles O29: the rows of both kinds compute to the same states; the control rows write the mode
under the four-screen lock. -/
theorem vrc6RegisterWritesStoreTheirField : Obligations.Vrc6RegisterWritesStoreTheirField := by
  intro s a v
  refine ⟨?_, ?_, fun i hi => ?_, ?_, ?_⟩
  case refine_3 =>
    have hexec : ∀ i ∈ ([.vrc6Ctrl a v, .vrc6aCtrl a v] : List Instr), exec i s =
        done (setMirror (vrcMirror (v.extractLsb 3 2)) { s with regs.vrc6.ctrl := v }) := by
      simp only [List.forall_mem_cons]
      exact ⟨rfl, rfl, List.forall_mem_nil _⟩
    rw [hexec i hi, setMirror_eq, vrcMirror_eq]
    rfl
  case refine_5 =>
    simp only [List.forall_mem_cons]
    exact ⟨rfl, rfl, rfl, rfl, List.forall_mem_nil _⟩
  all_goals
    simp only [List.forall_mem_cons]
    exact ⟨rfl, rfl, List.forall_mem_nil _⟩

/-- The register index of a VRC6 address (R1000). -/
theorem vrc6Index_normalizeVrc6 (a : Word) : vrc6Index (normalizeVrc6 a) = a.toNat % 4 := by
  have hpins : (normalizeVrc6 a).extractLsb 1 0 = a.extractLsb 1 0 := by
    ext i hi
    obtain rfl | rfl : i = 0 ∨ i = 1 := by omega
    all_goals simp [normalizeVrc6]
  exact (congrArg BitVec.toNat hpins).trans (toNat_extractLsb_zero a 1)

/-- The register index of a VRC6a address: the two low pins exchanged (R1000). -/
theorem vrc6Index_normalizeVrc6a (a : Word) :
    vrc6Index (normalizeVrc6a a) = 2 * (a.toNat % 2) + a.toNat / 2 % 2 := by
  have hpins : (normalizeVrc6a a).extractLsb' 0 (1 + 1) =
      a.extractLsb' 0 1 ++ a.extractLsb' 1 1 := by
    ext i hi
    obtain rfl | rfl : i = 0 ∨ i = 1 := by omega
    all_goals
      rw [BitVec.getElem_append]
      simp [normalizeVrc6a]
  calc vrc6Index (normalizeVrc6a a)
      = (a.extractLsb' 0 1 ++ a.extractLsb' 1 1).toNat := congrArg BitVec.toNat hpins
    _ = 2 * (a.toNat % 2) + a.toNat / 2 % 2 := by
      rw [BitVec.toNat_append, ← Nat.shiftLeft_add_eq_or_of_lt (BitVec.isLt _)]
      simp [Nat.shiftRight_eq_div_pow, Nat.shiftLeft_eq, Nat.mul_comm]

/-- Settles O30: the index of each row, and a write of one register of the array. -/
theorem vrc6ArrayWritesFollowTheSwappedPins : Obligations.Vrc6ArrayWritesFollowTheSwappedPins := by
  intro s a v
  simp only [← vrc6Index_normalizeVrc6, ← vrc6Index_normalizeVrc6a]
  constructor <;> intro x hx <;> fin_cases hx <;> exact ⟨_, rfl, regStored_regSet _ _ _⟩

/-- The unit after a control write and its acknowledge (R1007, R1059). -/
theorem vrcControl_eq (v : Byte) (q : VrcIrq) :
    { vrcControl v q with pending := false } =
      ({ latch := q.latch, ctrl := v.extractLsb 2 0,
         counter := if v.getLsbD 1 then q.latch else q.counter, pending := false } : VrcIrq) := by
  simp only [vrcControl, extract_bit_one]

/-- The control bits after an acknowledge: E is a copy of A (R1008, R1060). -/
theorem vrcReenable_ctrl (q : VrcIrq) :
    (vrcReenable q).ctrl.getLsbD 0 = q.ctrl.getLsbD 0 ∧
    (vrcReenable q).ctrl.getLsbD 1 = q.ctrl.getLsbD 0 ∧
    (vrcReenable q).ctrl.getLsbD 2 = q.ctrl.getLsbD 2 := by
  simp [vrcReenable]

/-- Settles O31: the two writes of the unit, each with the acknowledge of R1212. -/
theorem vrcIrqControlAndAcknowledgeWrites : Obligations.VrcIrqControlAndAcknowledgeWrites := by
  intro s a v control
  have hcontrol (q : VrcIrq) : { vrcControl v q with pending := false } = control q :=
    vrcControl_eq v q
  simp only [← hcontrol]
  refine ⟨?_, rfl, fun i hi => ?_, fun i hi => ?_⟩
  case refine_1 =>
    simp only [List.forall_mem_cons]
    exact ⟨rfl, rfl, List.forall_mem_nil _⟩
  case refine_2 => fin_cases hi <;> exact ⟨_, rfl, vrcReenable_ctrl _⟩
  case refine_3 => fin_cases hi <;> exact ⟨_, rfl, vrcReenable_ctrl _⟩

/-- Settles O34: every row but the control row computes to its state, an array row to a write of one
register. -/
theorem vrc7RegisterWritesStoreTheirField : Obligations.Vrc7RegisterWritesStoreTheirField := by
  intro s a v
  refine ⟨fun x hx => ?_, fun x hx => ?_, ⟨_, rfl, ?_⟩, rfl, ?_, ?_, rfl⟩
  case refine_1 => fin_cases hx <;> exact ⟨_, rfl, regStored_regSet _ _ _⟩
  case refine_2 => fin_cases hx <;> exact ⟨_, rfl, regStored_regSet _ _ _⟩
  case refine_3 =>
    rw [toNat_extractLsb_zero]
    exact regStored_regSet _ _ _
  case refine_4 =>
    simp only [List.forall_mem_cons]
    exact ⟨rfl, rfl, List.forall_mem_nil _⟩
  case refine_5 =>
    have hexec : exec (.vrc7Ctrl a v) s =
      done (setMirror (vrcMirror (v.extractLsb 1 0)) { s with regs.vrc7.ctrl := v }) := rfl
    rw [hexec, setMirror_eq, vrcMirror_eq]
    rfl

/-! ### Windows -/

/-- A PRG-RAM store gated by bit 7 of a register. -/
theorem gatedPrgRamStore (s : State) (c : Byte) (a : Word) (v : Byte) :
    if c.getLsbD 7 then
      PrgRamStored s (if c.extractLsb 7 7 = 1 then prgRamStore s 0 k8 a v else s) 0 k8 a v
    else (if c.extractLsb 7 7 = 1 then prgRamStore s 0 k8 a v else s) = s := by
  simp only [extract_bit_one]
  cases c.getLsbD 7
  · rfl
  · exact prgRamStored_prgRamStore ..

/-- Settles O32: the gate is bit 7 of `ctrl` (R1011, R1014, R1062, R1065). -/
theorem vrcPrgRamIsGatedByCtrlBit7 : Obligations.VrcPrgRamIsGatedByCtrlBit7 := by
  intro s a v
  constructor
  · simp only [← extract_bit_one, List.forall_mem_cons]
    exact ⟨rfl, rfl, rfl, List.forall_mem_nil _⟩
  · intro x hx
    fin_cases hx <;> exact ⟨_, rfl, gatedPrgRamStore ..⟩

/-- The 1K CHR bank, by the address (R1012, R1063). -/
theorem vrcChr_eq (chr : Vector (BitVec 8) 8) (a : ChrAddr) :
    vrcChr chr a = ⟨(chr[a.toNat / 0x400]?.getD 0).toNat, k1⟩ := by
  have hindex : (a.extractLsb 12 10).toNat = a.toNat / 0x400 := by
    have := a.isLt
    simp [Nat.shiftRight_eq_div_pow]
    omega
  rw [vrcChr, regAt, hindex]

/-- VRC6's and VRC6a's PRG byte, by the two address bits (R1010). -/
theorem prgWindowByte_vrc6Prg (s : State) (last : Nat) (p : Word) :
    prgWindowByte s (vrc6Prg s.regs.vrc6 last p) p =
      if p.getLsbD 14 = false then prgRomBank s s.regs.vrc6.prg16.toNat k16 p
      else if p.getLsbD 13 = false then prgRomBank s s.regs.vrc6.prg8.toNat k8 p
      else prgRomBank s last k8 p := by
  simp only [vrc6Prg, extract_bit_zero]
  split_ifs <;> rfl

/-- VRC7's PRG window, by its four values (R1061). -/
theorem vrc7Prg_eq (r : Vrc7Regs) (last : Nat) (p : Word) :
    vrc7Prg r last p =
      ⟨if p.extractLsb 14 13 = 0 then r.prg[0].toNat
        else if p.extractLsb 14 13 = 1 then r.prg[1].toNat
        else if p.extractLsb 14 13 = 2 then r.prg[2].toNat
        else last, k8⟩ := by
  have hread (i : Nat) (h : i < 3) : regAt r.prg i = r.prg[i] := regAt_eq_getElem _ i h
  rw [vrc7Prg]
  obtain h | h | h | h := bitVec2_cases (p.extractLsb 14 13) <;> rw [h]
  case inl => exact congrArg (Window.mk ·.toNat k8) (hread 0 (by decide))
  case inr.inl => exact congrArg (Window.mk ·.toNat k8) (hread 1 (by decide))
  case inr.inr.inl => exact congrArg (Window.mk ·.toNat k8) (hread 2 (by decide))
  case inr.inr.inr => rfl

/-- Settles O33: the PRG banks written out, and the 1K CHR bank of the address. -/
theorem vrcPrgAndChrWindows : Obligations.VrcPrgAndChrWindows := by
  intro s p a v last r7 b6 b7
  have h6 : vrcChr s.regs.vrc6.chr a = ⟨b6, k1⟩ := vrcChr_eq ..
  have h7 : vrcChr s.regs.vrc7.chr a = ⟨b7, k1⟩ := vrcChr_eq ..
  have hlast : prgFromEnd s k8 1 = last := fromEnd_one ..
  refine ⟨fun i hi => ?_, ?_, fun x hx => ?_, fun x hx => ?_⟩
  case refine_1 =>
    rw [← prgWindowByte_vrc6Prg, ← hlast]
    fin_cases hi <;> rfl
  case refine_2 =>
    have hexec : exec (.vrc7PrgRead p) s =
        reply (prgWindowByte s (vrc7Prg s.regs.vrc7 (prgFromEnd s k8 1) p) p) s := rfl
    rw [hexec, hlast, reply_eq, vrc7Prg_eq]
    rfl
  case refine_3 =>
    have hread (r : Vector (BitVec 8) 8) {b : Nat} (h : vrcChr r a = ⟨b, k1⟩) :
        reply (chrWindowByte s (vrcChr r a) a) s =
          .next { s with answer := .byte (chrBank s b k1 a) } := by
      rw [h]
      rfl
    fin_cases hx
    · exact hread _ h6
    · exact hread _ h6
    · exact hread _ h7
  case refine_4 =>
    have hwrite (r : Vector (BitVec 8) 8) {b : Nat} (h : vrcChr r a = ⟨b, k1⟩) :
        ∃ t, done (chrWindowStore s (vrcChr r a) a v) = .next { t with answer := .nothing } ∧
          ChrStored s t b k1 a v := by
      rw [h]
      exact ⟨_, rfl, chrStored_chrStore ..⟩
    fin_cases hx
    · exact hwrite _ h6
    · exact hwrite _ h6
    · exact hwrite _ h7

/-! ### The countdown -/

/-- `q` reads the counter unit of the VRC cartridge in `s`. -/
def IsVrcIrq (s : State) (q : State → VrcIrq) : Prop :=
  q = (fun t => t.regs.vrc6.irq) ∧ (s.image.kind = .vrc6 ∨ s.image.kind = .vrc6a) ∨
    q = (fun t => t.regs.vrc7.irq) ∧ s.image.kind = .vrc7

/-- The level of a VRC cartridge is the flag of its counter unit (R416). -/
theorem IsVrcIrq.level_eq {s : State} {q : State → VrcIrq} (h : IsVrcIrq s q) :
    level s = (q s).pending := by
  obtain ⟨rfl, hk | hk⟩ | ⟨rfl, hk⟩ := h <;> rw [level, hk] <;> rfl

/-- A scanline call on a VRC cartridge whose counter runs (R1020). -/
structure VrcClock (q : State → VrcIrq) (s t : State) : Prop where
  present : t.present = s.present
  image : t.image = s.image
  counts : (q s).counter ≠ 0xFF →
    q t = { q s with counter := (q s).counter + 1 } ∧ t.triggers = s.triggers
  fires : (q s).counter = 0xFF →
    (q t).counter = (q s).latch ∧ (q t).pending = true ∧ t.triggers = s.triggers + 1

theorem handle_scanline_vrc {s : State} {q : State → VrcIrq} (hq : IsVrcIrq s q)
    (hs : s.present = true) (hcounts : (q s).ctrl.getLsbD 1 = true) (n : Word) :
    ∃ t, handle (.scanline n) s = .next t ∧ VrcClock q s t := by
  have hon : ¬(q s).ctrl.getLsbD 1 = false := by simp [hcounts]
  obtain ⟨-, -, hvrc6, hvrc7, -⟩ := scanlineHookByKind s n
  have hserve : handle (.scanline n) s = notifyScanline n s := handle_present _ s hs
  rw [hserve]
  obtain ⟨rfl, hk⟩ | ⟨rfl, hk⟩ := hq
  · rw [hvrc6 hk, if_neg hon]
    split
    case isTrue h => exact ⟨_, rfl, rfl, rfl, fun hne => absurd h hne, fun _ => ⟨rfl, rfl, rfl⟩⟩
    case isFalse h => exact ⟨_, rfl, rfl, rfl, fun _ => ⟨rfl, rfl⟩, fun heq => absurd heq h⟩
  · rw [hvrc7 hk, if_neg hon]
    split
    case isTrue h => exact ⟨_, rfl, rfl, rfl, fun hne => absurd h hne, fun _ => ⟨rfl, rfl, rfl⟩⟩
    case isFalse h => exact ⟨_, rfl, rfl, rfl, fun _ => ⟨rfl, rfl⟩, fun heq => absurd heq h⟩

/-- Settles O35, by induction on the scanline calls: each counts, and the one that finds the counter
at $FF fires. -/
theorem vrcCounterFiresWhenItPassesFf : Obligations.VrcCounterFiresWhenItPassesFf := by
  intro s q hq hs hcounts ns
  have hlt := (q s).counter.isLt
  induction ns generalizing s with
  | nil =>
    refine ⟨fun _ => ⟨s, rfl, rfl, rfl, rfl⟩, fun hlen => ?_⟩
    have : 0 = 256 - (q s).counter.toNat := hlen
    omega
  | cons n ns ih =>
    obtain ⟨t, hhandle, hclock⟩ := handle_scanline_vrc hq hs hcounts n
    have hrun : run ((n :: ns).map .scanline) s = run (ns.map .scanline) t := run_cons hhandle _
    have hqt : IsVrcIrq t q := by rw [IsVrcIrq, hclock.image]; exact hq
    have hlevel : level t = (q t).pending := hqt.level_eq
    have hlevel' : level s = (q s).pending := IsVrcIrq.level_eq hq
    rw [hrun, List.length_cons]
    by_cases hfull : (q s).counter = 0xFF
    · have hcount : (q s).counter.toNat = 255 := by rw [hfull]; rfl
      obtain ⟨hreload, hpending, htriggers⟩ := hclock.fires hfull
      refine ⟨fun hlen => by omega, fun hlen => ?_⟩
      obtain rfl : ns = [] := List.eq_nil_of_length_eq_zero (by omega)
      exact ⟨t, rfl, hlevel.trans hpending, htriggers, hreload⟩
    · obtain ⟨hunit, htriggers⟩ := hclock.counts hfull
      have hcount : (q t).counter.toNat = (q s).counter.toNat + 1 := by
        rw [hunit]
        bv_omega
      have hsame : level t = level s := by rw [hlevel, hlevel', hunit]
      obtain ⟨hbelow, hat⟩ := ih t hqt (hclock.present.trans hs) (by rw [hunit]; exact hcounts)
        (q t).counter.isLt
      refine ⟨fun hlen => ?_, fun hlen => ?_⟩
      · obtain ⟨x, hx, hxl, hxt, hxc⟩ := hbelow (by omega)
        exact ⟨x, hx, hxl.trans hsame, hxt.trans htriggers, by omega⟩
      · obtain ⟨x, hx, hxl, hxt, hxc⟩ := hat (by omega)
        exact ⟨x, hx, hxl, by omega, by rw [hxc, hunit]⟩

end Sys2Proof
end

section
/-!
FDS (47_fds.md): the linear RAM and the fixed reads, register writes, the audio storage, and the IRQ
timer.
-/

namespace Sys2Proof

open Sys2Proof.Machine Sys2Proof.Config

/-! ### Memory and reads -/

/-- A store into the linear RAM (R1103). -/
theorem done_storePrgRam (s : State) (o : Nat) (v : Byte) :
    done (storePrgRam s o v) =
      .next { s with prgRam := s.prgRam.write o v, sramDirty := true, answer := .nothing } := rfl

/-- Settles O36: the offset of the linear RAM is the one written out. -/
theorem fdsRamAndFixedReads : Obligations.FdsRamAndFixedReads := by
  intro s a v
  refine ⟨?_, fun i hi => ?_, ?_, rfl, rfl, rfl, rfl, rfl⟩
  case refine_1 =>
    simp only [List.forall_mem_cons]
    exact ⟨rfl, rfl, rfl, List.forall_mem_nil _⟩
  case refine_2 =>
    have hexec : ∀ i ∈ ([.fdsRamWrite6 a v, .fdsRamWrite8 a v, .fdsRamWriteC a v] : List Instr),
        exec i s = done (storePrgRam s (fdsRamOffset s a) v) := by
      simp only [List.forall_mem_cons]
      exact ⟨rfl, rfl, rfl, List.forall_mem_nil _⟩
    rw [hexec i hi, done_storePrgRam]
    exact ⟨_, rfl, fun h => stored_write _ _ _ (Nat.mod_lt _ (Nat.pos_of_ne_zero h))⟩
  case refine_3 =>
    have hexec : exec (.fdsBiosRead a) s = reply (prgRomBank s 0 k8 a) s := rfl
    rw [hexec, prgRomBank_bank_zero, reply_eq]

/-! ### Register writes -/

/-- The low bit of a two-bit control, alone (R1113, R1130). -/
theorem getLsbD_and_one (c : BitVec 2) :
    (c &&& 0b01).getLsbD 0 = c.getLsbD 0 ∧ (c &&& 0b01).getLsbD 1 = false := by
  obtain rfl | rfl | rfl | rfl := bitVec2_cases c <;> decide

/-- The low byte of two bytes put together. -/
theorem extractLsb_low_append (x y : Byte) : (x ++ y : BitVec (8 + 8)).extractLsb 7 0 = y := by
  apply BitVec.eq_of_toNat_eq
  have hy := y.isLt
  rw [toNat_extractLsb_zero, BitVec.toNat_append, ← Nat.shiftLeft_add_eq_or_of_lt hy,
    Nat.shiftLeft_eq]
  omega

/-- The high byte of two bytes put together. -/
theorem extractLsb_high_append (x y : Byte) : (x ++ y : BitVec (8 + 8)).extractLsb 15 8 = x := by
  apply BitVec.eq_of_toNat_eq
  have hx := x.isLt
  have hy := y.isLt
  rw [BitVec.extractLsb_toNat, BitVec.toNat_append, ← Nat.shiftLeft_add_eq_or_of_lt hy,
    Nat.shiftLeft_eq, Nat.shiftRight_eq_div_pow]
  omega

/-- The timer control write: the acknowledge is a clear bit 1 (R1112, R1212). -/
theorem exec_fdsTimerCtrl (s : State) (a : Word) (v : Byte) :
    exec (.fdsTimerCtrl a v) s = .next { s with
      regs.fds.timerCtrl := v.extractLsb 1 0
      regs.fds.timerCounter :=
        if v.getLsbD 1 && s.regs.fds.masterIo.getLsbD 0 then s.regs.fds.timerReload
        else s.regs.fds.timerCounter
      regs.fds.irqPending := v.getLsbD 1 && s.regs.fds.irqPending
      answer := .nothing } := by
  have hexec : exec (.fdsTimerCtrl a v) s = execFdsTimerCtrl a v s := rfl
  simp only [hexec, execFdsTimerCtrl, extract_bit_one, extract_bit_zero, Bool.and_eq_true]
  cases v.getLsbD 1 <;> rfl

/-- The master I/O write: with bit 0 clear it stops the timer and acknowledges (R1113, R1212). -/
theorem exec_fdsMasterIo (s : State) (a : Word) (v : Byte) :
    exec (.fdsMasterIo a v) s = .next { s with
      regs.fds.masterIo := v.extractLsb 1 0
      regs.fds.timerCtrl :=
        if v.getLsbD 0 then s.regs.fds.timerCtrl else s.regs.fds.timerCtrl &&& 0b01
      regs.fds.irqPending := v.getLsbD 0 && s.regs.fds.irqPending
      answer := .nothing } := by
  have hexec : exec (.fdsMasterIo a v) s = execFdsMasterIo a v s := rfl
  simp only [hexec, execFdsMasterIo, extract_bit_zero]
  cases v.getLsbD 0 <;> rfl

/-- Settles O37: the halves of the reload value, and the two acknowledge conditions by their bit. -/
theorem fdsRegisterWritesStoreTheirField : Obligations.FdsRegisterWritesStoreTheirField := by
  intro s a v f
  refine ⟨⟨_, rfl, ?_, ?_⟩, ⟨_, rfl, ?_, ?_⟩, ?_, ?_, rfl, ?_, rfl⟩
  case refine_1 => exact extractLsb_low_append ..
  case refine_2 => exact extractLsb_high_append ..
  case refine_3 => exact extractLsb_high_append ..
  case refine_4 => exact extractLsb_low_append ..
  case refine_5 => exact exec_fdsTimerCtrl s a v
  case refine_6 =>
    refine ⟨_, exec_fdsMasterIo s a v, ?_⟩
    obtain ⟨hlow, hhigh⟩ := getLsbD_and_one f.timerCtrl
    cases v.getLsbD 0
    · exact ⟨hlow, hhigh⟩
    · exact ⟨rfl, rfl⟩
  case refine_7 =>
    have hexec : exec (.fdsControl a v) s =
        done (setMirror (hvMirror (v.extractLsb 3 3)) { s with regs.fds.fdsCtrl := v }) := rfl
    rw [hexec, setMirror_eq, hvMirror_eq]
    simp only [extract_bit_one]
    rfl

/-! ### Audio storage -/

/-- Settles O38: the low address bits are the register's place in its row. -/
theorem fdsWaveAndAudioStorage : Obligations.FdsWaveAndAudioStorage := by
  intro s a v
  refine ⟨fun hlo hhi => ?_, fun hlo hhi => ⟨_, rfl, ?_⟩, fun hlo hhi => ⟨_, rfl, ?_⟩,
    _, rfl, regStored_regSet _ _ _⟩
  case refine_1 =>
    have hindex : (a.extractLsb 5 0).toNat = a.toNat - 0x4040 := by
      rw [toNat_extractLsb_zero]
      bv_omega
    have hexec : exec (.fdsWaveRead a) s =
        reply ((regAt s.regs.fds.waveRam (a.extractLsb 5 0).toNat).setWidth 8) s := rfl
    rw [hexec, hindex]
    refine ⟨⟨_, rfl, ?_⟩, rfl⟩
    rw [hindex]
    exact regStored_regSet _ _ _
  case refine_2 =>
    have hindex : (a.extractLsb 2 0).toNat = a.toNat - 0x4080 := by
      rw [toNat_extractLsb_zero]
      bv_omega
    rw [hindex]
    exact regStored_regSet _ _ _
  case refine_3 =>
    have hindex : 8 + (a.extractLsb 0 0).toNat = a.toNat - 0x4080 := by
      rw [toNat_extractLsb_zero]
      bv_omega
    rw [hindex]
    exact regStored_regSet _ _ _

/-! ### The timer -/

/-- One more tick after `n` ticks (R1131). -/
theorem fdsTicks_succ (n : Nat) (s : State) : fdsTicks (n + 1) s = fdsTick (fdsTicks n s) := by
  induction n generalizing s with
  | zero => rfl
  | succ n ih => exact ih (fdsTick s)

/-- A timer that does not run ignores every tick (R1130, decision D43). -/
theorem fdsTicks_of_stopped {s : State} (h : s.regs.fds.timerCtrl.getLsbD 1 = false) (n : Nat) :
    fdsTicks n s = s := by
  have hstopped : ¬(s.regs.fds.timerCtrl.extractLsb 1 1 = 1 ∧
      s.regs.fds.masterIo.extractLsb 0 0 = 1) := by
    rw [extract_bit_one, h]
    exact fun hrun => Bool.false_ne_true hrun.1
  induction n with
  | zero => rfl
  | succ n ih => rw [fdsTicks, fdsTick, if_neg hstopped, ih]

/-- A timer that runs with a count above 0 counts down by one (R1130). -/
theorem fdsTick_of_counting {s : State} (hctrl : s.regs.fds.timerCtrl.getLsbD 1 = true)
    (hmaster : s.regs.fds.masterIo.getLsbD 0 = true) (hcount : s.regs.fds.timerCounter ≠ 0) :
    fdsTick s = { s with regs.fds.timerCounter := s.regs.fds.timerCounter - 1 } := by
  rw [fdsTick, if_pos ⟨(extract_bit_one ..).2 hctrl, (extract_bit_one ..).2 hmaster⟩, if_neg hcount]

/-- A timer that runs with the count 0 fires: it reloads, or stops (R1130). -/
theorem fdsTick_of_zero {s : State} (hctrl : s.regs.fds.timerCtrl.getLsbD 1 = true)
    (hmaster : s.regs.fds.masterIo.getLsbD 0 = true) (hcount : s.regs.fds.timerCounter = 0) :
    fdsTick s = { s with
      regs.fds.irqPending := true
      regs.fds.timerCounter :=
        if s.regs.fds.timerCtrl.getLsbD 0 then s.regs.fds.timerReload
        else s.regs.fds.timerCounter
      regs.fds.timerCtrl :=
        if s.regs.fds.timerCtrl.getLsbD 0 then s.regs.fds.timerCtrl
        else s.regs.fds.timerCtrl &&& 0b01
      triggers := s.triggers + 1 } := by
  rw [fdsTick, if_pos ⟨(extract_bit_one ..).2 hctrl, (extract_bit_one ..).2 hmaster⟩, if_pos hcount]
  simp only [extract_bit_one]
  cases s.regs.fds.timerCtrl.getLsbD 0 <;> rfl

/-- As long as the count lasts, `k` ticks take `k` from it and nothing else changes (R1130). -/
theorem fdsTicks_of_counting {s : State} (hctrl : s.regs.fds.timerCtrl.getLsbD 1 = true)
    (hmaster : s.regs.fds.masterIo.getLsbD 0 = true) (k : Nat)
    (hk : k ≤ s.regs.fds.timerCounter.toNat) :
    fdsTicks k s = { s with
      regs.fds.timerCounter := BitVec.ofNat 16 (s.regs.fds.timerCounter.toNat - k) } := by
  induction k with
  | zero => simp [fdsTicks]
  | succ k ih =>
    have hlt := s.regs.fds.timerCounter.isLt
    have hcount : BitVec.ofNat 16 (s.regs.fds.timerCounter.toNat - k) - 1 =
        BitVec.ofNat 16 (s.regs.fds.timerCounter.toNat - (k + 1)) := by bv_omega
    have hne : BitVec.ofNat 16 (s.regs.fds.timerCounter.toNat - k) ≠ 0 := by bv_omega
    rw [fdsTicks_succ, ih (by omega), ← hcount]
    exact fdsTick_of_counting hctrl hmaster hne

/-- Settles O39: the count runs down to 0, the next tick fires, and a one-shot timer is then
stopped. -/
theorem fdsTimerFiresAfterReloadPlusOneTicks : Obligations.FdsTimerFiresAfterReloadPlusOneTicks := by
  intro s hctrl hmaster n t
  have hdown (k : Nat) (hk : k ≤ n) := fdsTicks_of_counting hctrl hmaster k hk
  have hlt : n < 2 ^ 16 := s.regs.fds.timerCounter.isLt
  have hzero : fdsTicks n s = { s with regs.fds.timerCounter := 0 } := by
    rw [hdown n le_rfl, Nat.sub_self]
    rfl
  have ht : t = fdsTick { s with regs.fds.timerCounter := 0 } := by
    rw [← hzero, ← fdsTicks_succ]
  have hfire := fdsTick_of_zero (s := { s with regs.fds.timerCounter := 0 }) hctrl hmaster rfl
  refine ⟨fun k hk => ?_, ?_⟩
  case refine_1 =>
    rw [hdown k hk]
    exact ⟨Nat.mod_eq_of_lt (by omega), rfl, rfl⟩
  case refine_2 =>
    rw [ht, hfire]
    refine ⟨rfl, rfl, fun hrepeat => ?_, fun honce => ?_⟩
    · simp only [hrepeat, if_true, true_and]
      exact hctrl
    · simp only [honce]
      have hstopped := (getLsbD_and_one s.regs.fds.timerCtrl).2
      exact ⟨hstopped, fdsTicks_of_stopped hstopped⟩

end Sys2Proof
end

section
/-!
MMC5 (45_mmc5.md): configuration writes, bank and audio registers, status, product and ExRAM, and the
PRG and CHR windows.
-/

namespace Sys2Proof

open Sys2Proof.Machine Sys2Proof.Config

/-! ### Register writes -/

/-- MMC5's nametable mapping write (R906). -/
theorem exec_mmc5NtMap (s : State) (a : Word) (v : Byte) :
    exec (.mmc5NtMap a v) s = .next { s with
      regs.mmc5.ntMap := v
      mirrorMode :=
        if v = 0x50 then mirrored s .horizontal
        else if v = 0x44 then mirrored s .vertical
        else if v = 0x00 then mirrored s .singleA
        else if v = 0x55 then mirrored s .singleB
        else s.mirrorMode
      answer := .nothing } := by
  have hexec : exec (.mmc5NtMap a v) s = execMmc5NtMap a v s := rfl
  simp only [hexec, execMmc5NtMap, mmc5Mirror, setMirror_eq]
  split_ifs <;> rfl

/-- Settles O23: every row but two computes to its state; IRQ enable keeps bit 7, and the nametable
write has its own equation. -/
theorem mmc5ConfigurationWritesStoreTheirField :
    Obligations.Mmc5ConfigurationWritesStoreTheirField := by
  intro s a v
  refine ⟨rfl, rfl, rfl, rfl, rfl, rfl, rfl, rfl, rfl, ?_, rfl, rfl, exec_mmc5NtMap s a v⟩
  have hexec : exec (.mmc5IrqEnable a v) s =
      done { s with regs.mmc5.irqEnable := v.extractLsb 7 7 == 1 } := rfl
  have hbit : (v.extractLsb 7 7 == 1) = v.getLsbD 7 := by
    rw [Bool.eq_iff_iff, beq_iff_eq, extract_bit_one]
  rw [hexec, hbit, done_eq]

/-- Settles O24: the low address bits are the register's place in its row. -/
theorem mmc5BankAndAudioWritesStoreOneRegister :
    Obligations.Mmc5BankAndAudioWritesStoreOneRegister := by
  intro s a v
  have hstored {w n i j : Nat} (r : Vector (BitVec w) n) (x : BitVec w) (h : j = i) :
      RegStored r (regSet r i x) j x := by
    rw [h]
    exact regStored_regSet _ _ _
  refine ⟨⟨_, rfl, hstored _ _ rfl⟩, fun hlo hhi => ⟨_, rfl, hstored _ _ ?_⟩,
    fun hlo hhi => ⟨_, rfl, hstored _ _ ?_⟩, fun hlo hhi => ⟨_, rfl, hstored _ _ ?_⟩,
    fun hlo hhi => ⟨_, rfl, hstored _ _ ?_⟩, fun hlo hhi => ⟨_, rfl, hstored _ _ ?_⟩,
    fun hlo hhi => ⟨_, rfl, hstored _ _ ?_⟩⟩
  all_goals
    rw [toNat_extractLsb_zero]
    bv_omega

/-! ### Status, product and ExRAM -/

/-- The product is exact: two bytes multiply into a word (R918, R919). -/
theorem mmc5Product_toNat (r : Mmc5Regs) :
    (mmc5Product r).toNat = r.mulA.toNat * r.mulB.toNat := by
  have hlt : r.mulA.toNat * r.mulB.toNat < 2 ^ 8 * 2 ^ 8 := Nat.mul_lt_mul'' r.mulA.isLt r.mulB.isLt
  have hwide (x : Byte) : (x.setWidth 16).toNat = x.toNat :=
    (BitVec.toNat_setWidth _ _).trans (Nat.mod_eq_of_lt (by omega))
  rw [mmc5Product, BitVec.toNat_mul, hwide, hwide]
  exact Nat.mod_eq_of_lt hlt

/-- A word is its two bytes. -/
theorem word_toNat_bytes (x : BitVec 16) :
    256 * (x.extractLsb 15 8).toNat + (x.extractLsb 7 0).toNat = x.toNat := by
  have hx := x.isLt
  rw [BitVec.extractLsb_toNat, toNat_extractLsb_zero, Nat.shiftRight_eq_div_pow]
  omega

/-- Settles O25: the product's two bytes, and ExRAM's offset from the low ten address bits. -/
theorem mmc5StatusProductAndExram : Obligations.Mmc5StatusProductAndExram := by
  intro s a v
  refine ⟨rfl, ⟨_, _, rfl, rfl, ?_⟩, fun hlo hhi => ?_⟩
  case refine_1 => rw [word_toNat_bytes, mmc5Product_toNat]
  case refine_2 =>
    have hoffset : (a.extractLsb 9 0).toNat = a.toNat - 0x5C00 := by
      rw [toNat_extractLsb_zero]
      bv_omega
    have hread : exec (.mmc5ExramRead a) s = reply (s.exram.read (a.extractLsb 9 0).toNat) s := rfl
    have hwrite : exec (.mmc5ExramWrite a v) s =
      done { s with exram := s.exram.write (a.extractLsb 9 0).toNat v } := rfl
    rw [hread, hwrite, ← hoffset]
    refine ⟨rfl, _, rfl, fun hsize => stored_write _ _ _ ?_⟩
    rw [hsize]
    exact (a.extractLsb 9 0).isLt

/-! ### Windows -/

/-- MMC5's PRG window by the mode table (R930). -/
theorem mmc5PrgWin_eq (r : Mmc5Regs) (a : Word) :
    mmc5PrgWin r a =
      let w := (a.extractLsb 14 13).toNat
      let k := mmc5WindowReg r.prgMode w
      let size := mmc5WindowSize r.prgMode w
      let x : Byte := r.prgReg[k]?.getD 0
      (if k = 4 ∨ x.getLsbD 7 = true then .rom else .ram, ⟨x.toNat % 128 / (size / k8), size⟩) := by
  have hbank0 (x : Byte) : (x.extractLsb 6 0).toNat = x.toNat % 128 / (k8 / k8) := by
    rw [toNat_extractLsb_zero]
    exact (Nat.div_one _).symm
  have hbank1 (x : Byte) : (x.extractLsb 6 0 >>> 1).toNat = x.toNat % 128 / (k16 / k8) := by
    rw [BitVec.toNat_ushiftRight, toNat_extractLsb_zero, Nat.shiftRight_eq_div_pow]
    rfl
  have hbank2 (x : Byte) : (x.extractLsb 6 0 >>> 2).toNat = x.toNat % 128 / (k32 / k8) := by
    rw [BitVec.toNat_ushiftRight, toNat_extractLsb_zero, Nat.shiftRight_eq_div_pow]
    rfl
  have hsel (x : Byte) : mmc5Sel x = if x.getLsbD 7 = true then .rom else .ram := by
    simp only [mmc5Sel, extract_bit_one]
  simp only [mmc5PrgWin, hbank0, hbank1, hbank2, hsel]
  obtain hm | hm | hm | hm := bitVec2_cases r.prgMode <;>
    obtain hw | hw | hw | hw := bitVec2_cases (a.extractLsb 14 13) <;>
    simp [hm, hw, mmc5WindowReg, mmc5WindowSize, regAt]

/-- RAM is writable where both protect registers hold their key (R935). -/
theorem mmc5RamWritable_iff (r : Mmc5Regs) :
    mmc5RamWritable r = true ↔ r.ramProtect1 = 2 ∧ r.ramProtect2 = 1 := by
  simp [mmc5RamWritable]

/-- Settles O26: the window of the mode table, its source, and the two unlocks. -/
theorem mmc5PrgWindowsFollowTheModeTable : Obligations.Mmc5PrgWindowsFollowTheModeTable := by
  intro s a v p w k size r b rom unlocked b0
  have hwin : mmc5PrgWin s.regs.mmc5 a = (if rom then .rom else .ram, ⟨b, size⟩) :=
    mmc5PrgWin_eq s.regs.mmc5 a
  have hunlocked : mmc5RamWritable s.regs.mmc5 = true ↔ unlocked := mmc5RamWritable_iff _
  have hb0 : (regAt s.regs.mmc5.prgReg 0).toNat = b0 :=
    congrArg BitVec.toNat (regAt_eq_getElem _ 0 (by decide))
  have hread : exec (.mmc5PrgRead a) s = execMmc5PrgRead a s := rfl
  have hwrite : exec (.mmc5PrgWrite a v) s = execMmc5PrgWrite a v s := rfl
  have hramRead : exec (.mmc5PrgramRead a) s = execMmc5PrgramRead a s := rfl
  have hramWrite : exec (.mmc5PrgramWrite a v) s = execMmc5PrgramWrite a v s := rfl
  simp only [hread, hwrite, hramRead, hramWrite, execMmc5PrgRead, execMmc5PrgWrite,
    execMmc5PrgramRead, execMmc5PrgramWrite, hwin, hb0, hunlocked]
  refine ⟨⟨_, rfl, fun h => ?_, fun h => ?_⟩, rfl, ⟨_, rfl, fun h => ?_, fun h => ?_⟩,
    _, rfl, fun h => ?_, fun h => ?_⟩
  case refine_1 => rw [if_pos h]
  case refine_2 => rw [if_neg h]
  case refine_3 =>
    rw [if_pos ⟨if_neg h.1, h.2⟩]
    exact prgRamStored_prgRamStore ..
  case refine_4 =>
    refine if_neg ?_
    rintro ⟨hsource, hopen⟩
    obtain hrom | hlocked := h
    · rw [if_pos hrom] at hsource
      cases hsource
    · exact hlocked hopen
  case refine_5 =>
    rw [if_pos h]
    exact prgRamStored_prgRamStore ..
  case refine_6 => exact if_neg h

/-- MMC5's CHR window by the mode table (R940). -/
theorem mmc5Chr_eq (r : Mmc5Regs) (a : ChrAddr) :
    mmc5Chr r a =
      let w : Nat × Nat :=
        if r.chrMode = 0 then (7, k8)
        else if r.chrMode = 1 then (4 * (a.toNat / k4) + 3, k4)
        else if r.chrMode = 2 then (2 * (a.toNat / k2) + 1, k2)
        else (a.toNat / k1, k1)
      ⟨(r.chrReg[w.1]?.getD 0).toNat, w.2⟩ := by
  have ha := a.isLt
  have h4 : (if a.extractLsb 12 12 = 0 then 3 else 7) = 4 * (a.toNat / k4) + 3 := by
    rw [k4]
    simp only [chrAddr_bit12_zero]
    split <;> omega
  have h2 : (a.extractLsb 12 11).toNat = a.toNat / k2 := by
    rw [BitVec.extractLsb_toNat, Nat.shiftRight_eq_div_pow, k2]
    omega
  have h1 : (a.extractLsb 12 10).toNat = a.toNat / k1 := by
    rw [BitVec.extractLsb_toNat, Nat.shiftRight_eq_div_pow, k1]
    omega
  simp only [mmc5Chr, h4, h2, h1, regAt]
  split_ifs <;> rfl

/-- Settles O27: the CHR window of the mode table. -/
theorem mmc5ChrWindowsUseSetA : Obligations.Mmc5ChrWindowsUseSetA := by
  intro s a v m w b
  have hwin : mmc5Chr s.regs.mmc5 a = ⟨b, w.2⟩ := mmc5Chr_eq s.regs.mmc5 a
  have hread : exec (.mmc5ChrRead a) s = reply (chrWindowByte s (mmc5Chr s.regs.mmc5 a) a) s := rfl
  have hwrite : exec (.mmc5ChrWrite a v) s =
    done (chrWindowStore s (mmc5Chr s.regs.mmc5 a) a v) := rfl
  rw [hread, hwrite, hwin]
  exact ⟨rfl, _, rfl, chrStored_chrStore ..⟩

end Sys2Proof
end

section
/-!
The simple kinds (41_simple_mappers.md), the standard PRG-RAM window (20_memory.md), and MMC1
(42_mmc1.md): its serial port and its windows.
-/

namespace Sys2Proof

open Sys2Proof.Machine Sys2Proof.Config

/-! ### The simple kinds -/

/-- Settles O3: the low window's bank arithmetic written out, and the last bank. -/
theorem camericaBankingAndLastBankWindows : Obligations.CamericaBankingAndLastBankWindows := by
  intro s a v
  have hlow : exec (.camericaPrgReadLow a) s =
    reply (prgRomBank s s.regs.uxrom.prgBank.toNat k16 a) s := rfl
  have hhigh : ∀ i ∈ ([.uxromPrgReadHigh a, .camericaPrgReadHigh a] : List Instr),
      exec i s = reply (prgRomBank s (prgFromEnd s k16 1) k16 a) s := by
    simp only [List.forall_mem_cons]
    exact ⟨rfl, rfl, List.forall_mem_nil _⟩
  refine ⟨rfl, ?_, fun i hi => ?_⟩
  · rw [hlow, prgRomBank_eq, reply_eq]
  · rw [hhigh i hi, prgFromEnd, fromEnd_one, reply_eq]

/-- Settles O6: the rows compute to their states; AxROM's writes the mode under the four-screen
lock. -/
theorem simpleBankWritesKeepTheirBits : Obligations.SimpleBankWritesKeepTheirBits := by
  intro s a c v
  refine ⟨rfl, rfl, rfl, rfl, ⟨_, rfl, chrStored_chrStore ..⟩, ?_⟩
  have hexec : exec (.axromBankWrite a v) s =
    done (setMirror (axromMirror (v.extractLsb 4 4))
      { s with regs.axrom.prgBank := v.extractLsb 2 0 }) := rfl
  rw [hexec, setMirror_eq]
  rfl

/-- The byte of the standard PRG-RAM window (R220). -/
theorem stdPrgRam_eq (s : State) (a : Word) :
    stdPrgRam s a =
      if s.prgRam.size = 0 then 0 else s.prgRam.read (a.toNat % 0x2000 % s.prgRam.size) := by
  rw [stdPrgRam, prgRamBank, bankOffset_bank_zero]

/-- Settles O7: the nine rows of each side are the one shared window. -/
theorem standardPrgRamWindowReadsAndStores : Obligations.StandardPrgRamWindowReadsAndStores := by
  intro s a v
  refine ⟨?_, fun i hi => ?_⟩
  · simp only [← stdPrgRam_eq, List.forall_mem_cons]
    exact ⟨rfl, rfl, rfl, rfl, rfl, rfl, rfl, rfl, rfl, List.forall_mem_nil _⟩
  · fin_cases hi <;> exact ⟨_, rfl, prgRamStored_prgRamStore ..⟩

/-! ### MMC1 -/

/-- MMC1's mirroring code as a list of modes (R606). -/
theorem mmc1Mirror_eq (m : BitVec 2) (d : Mirror) :
    ([.singleA, .singleB, .vertical, .horizontal] : List Mirror).getD m.toNat d = mmc1Mirror m := by
  obtain rfl | rfl | rfl | rfl := bitVec2_cases m <;> rfl

/-- A commit, by its target (R600, R602 to R605). -/
theorem mmc1Commit_eq (t : BitVec 2) (v : BitVec 5) (s : State) :
    mmc1Commit t v s = { s with
      regs.mmc1.control := if t = 0 then v else s.regs.mmc1.control
      regs.mmc1.chr0 := if t = 1 then v else s.regs.mmc1.chr0
      regs.mmc1.chr1 := if t = 2 then v else s.regs.mmc1.chr1
      regs.mmc1.prg := if t = 3 then v else s.regs.mmc1.prg
      mirrorMode :=
        if t = 0 then mirrored s (mmc1Mirror (v.extractLsb 1 0)) else s.mirrorMode } := by
  obtain rfl | rfl | rfl | rfl := bitVec2_cases t
  case inl => exact setMirror_eq ..
  all_goals rfl

/-- Settles O10: the fifth bit commits, any other is counted (R600). -/
theorem mmc1SerialPortStepsAndCommits : Obligations.Mmc1SerialPortStepsAndCommits := by
  intro s a v r v5
  refine ⟨rfl, fun i hi => ?_⟩
  have hfour : r.shiftCount = 4 ↔ r.shiftCount.val = 4 := Fin.ext_iff
  rw [exec_mmc1SerialWrite s a v i hi]
  split
  case isTrue h =>
    rw [mmc1Shift, if_pos (hfour.2 h), mmc1Commit_eq, mmc1Mirror_eq]
    rfl
  case isFalse h =>
    have hlast : r.shiftCount < Fin.last 4 :=
      Fin.lt_last_iff_ne_last.2 fun heq => h (congrArg Fin.val heq)
    refine ⟨r.shiftCount + 1, Fin.val_add_one_of_lt hlast, ?_⟩
    rw [mmc1Shift, if_neg (fun h4 => h (hfour.1 h4))]
    rfl

/-- MMC1's CHR window by `control` and the half of the address (R608). -/
theorem mmc1Chr_eq (r : Mmc1Regs) (c : ChrAddr) :
    mmc1Chr r c =
      let w : Nat × Nat :=
        if r.control.getLsbD 4 = false then (r.chr0.toNat / 2, k8)
        else if c.toNat < 0x1000 then (r.chr0.toNat, k4) else (r.chr1.toNat, k4)
      ⟨w.1, w.2⟩ := by
  have hhalf : (r.chr0.extractLsb 4 1).toNat = r.chr0.toNat / 2 := by
    have hlt := r.chr0.isLt
    rw [BitVec.extractLsb_toNat, Nat.shiftRight_eq_div_pow]
    omega
  have hsize : r.control.extractLsb 4 4 = 0 ↔ r.control.getLsbD 4 = false := extract_bit_zero _ _
  simp only [mmc1Chr, hsize, chrAddr_bit12_zero, hhalf]
  split_ifs <;> rfl

/-- The byte of a PRG window chosen by MMC1's two mode bits. -/
theorem prgWindowByte_ite (s : State) (p q : Prop) [Decidable p] [Decidable q] (x y z : Window)
    (a : Word) :
    prgWindowByte s (if p then x else if q then y else z) a =
      if p then prgRomBank s x.bank x.size a
      else if q then prgRomBank s y.bank y.size a
      else prgRomBank s z.bank z.size a := by
  split_ifs <;> rfl

/-- Settles O12: the columns of the PRG table, and the CHR window. -/
theorem mmc1WindowsFollowControl : Obligations.Mmc1WindowsFollowControl := by
  intro s a c v r m b32 b16 chr
  have hchr : mmc1Chr s.regs.mmc1 c = ⟨chr.1, chr.2⟩ := mmc1Chr_eq ..
  have hlow : exec (.mmc1PrgReadLow a) s =
    reply (prgWindowByte s (mmc1PrgLow s.regs.mmc1) a) s := rfl
  have hhigh : exec (.mmc1PrgReadHigh a) s =
    reply (prgWindowByte s (mmc1PrgHigh s.regs.mmc1 (prgFromEnd s k16 1)) a) s := rfl
  have hread : exec (.mmc1ChrRead c) s = reply (chrWindowByte s (mmc1Chr s.regs.mmc1 c) c) s := rfl
  have hwrite : exec (.mmc1ChrWrite c v) s =
    done (chrWindowStore s (mmc1Chr s.regs.mmc1 c) c v) := rfl
  rw [hread, hwrite, hchr]
  refine ⟨?_, ?_, rfl, _, rfl, chrStored_chrStore ..⟩
  · rw [hlow, mmc1PrgLow, prgWindowByte_ite, reply_eq]
  · rw [hhigh, mmc1PrgHigh, prgWindowByte_ite, reply_eq, prgFromEnd, fromEnd_one]

end Sys2Proof
end
